-- ==== Sys2Proof/Word.lean ====
section
/-!
DEFINITION. The word types of the guh link arbiter (ARB) and BOT decoder (BOT).
Every data path is 8 bits wide (00_scope.md R10); the record fields that are read as numbers are
16 or 32 bits wide (30_encoding.md R91, R93, R97). All values are unsigned (R14).
-/

namespace Sys2Proof

/-- One byte of a record or of a side's data path (R10). -/
abbrev Byte := BitVec 8

/-- A 16-bit record field (R93: the CDB's transfer length). -/
abbrev Half := BitVec 16

/-- A 32-bit record field (R91, R93, R97). -/
abbrev Word32 := BitVec 32

end Sys2Proof
end

