-- ==== Sys2Proof/Config.lean ====
section
/-!
DEFINITION. The construction-time parameters of 00_scope.md R8, with the composition choice of
70_reset_and_hazards.md R285 and the parameter of R274, and the free values.

R8, R275: the configuration is "construction-time only, not runtime-mutable". The machine's State
carries it as one field that no step changes (assumption 1), so that every statement about all
states is a statement about all configurations. Ill-formed values are refused by the step (R249).
-/

namespace Sys2Proof

/-- How the two blocks are connected (R285, D30). -/
inductive Wiring where
  /-- R1: two independent blocks; each block's ports are driven from outside. -/
  | independent
  /-- R285: BOT's endpoints are wired to ARB's device side, with `D.op_mode` NORMAL. -/
  | direct
deriving DecidableEq, Repr

/-- The parameters of R8 that are not fixed by the spec, and the two composition parameters. -/
structure Config where
  /-- BLOCK_SIZE: bytes per block (R8). -/
  blockSize : Nat
  /-- BLOCK_COUNT: number of blocks (R8). -/
  blockCount : Nat
  /-- P_PREAMBLE: relay lead time in cycles (R8, U9). -/
  pPreamble : Nat
  /-- CBW_LEN: bytes in a CBW, 31 or 25 (R8, U6). -/
  cbwLen : Nat
  /-- RESET_REQUIRES_TX_VALID (R8, R121, U7). -/
  resetRequiresTxValid : Bool
  /-- BUS_RESET_RESETS_BOT: ties BOT's `rst` to the bus reset (R274, U8). -/
  busResetResetsBot : Bool
  /-- Whether the blocks stand alone or in the direct composition (R285). -/
  wiring : Wiring
  /-- MAX_PACKET_SIZE: inert (R9). DESIGN CHOICE: a natural number (assumption 17). -/
  maxPacketSize : Nat
  /-- FULL_SPEED_ONLY: inert (R9), a flag. -/
  fullSpeedOnly : Bool
  /-- VID: inert (R8, "cosmetic, not consumed by the protocol logic"). PRESUMED: R8 gives it no width, and
  the 16 bits are USB's (assumption 17). -/
  vid : Half
  /-- PID: inert (R8). PRESUMED: its 16 bits, as for VID (assumption 17). -/
  pid : Half
  /-- The device strings: inert (R8). DESIGN CHOICE: a list of strings (assumption 17). -/
  strings : List String
deriving DecidableEq, Repr

/-- The parameter values 95_test_vectors.md section 0 takes by default (assumption 2). -/
def Config.standard : Config where
  blockSize := 512
  blockCount := 1024
  pPreamble := 3
  cbwLen := 31
  resetRequiresTxValid := false
  busResetResetsBot := false
  wiring := .independent
  maxPacketSize := 0
  fullSpeedOnly := false
  vid := 0
  pid := 0
  strings := []

/-- FREE VALUE (assumption 3). What the input pins carry in the given cycle when the state lists no
pin values for it: the environment is unconstrained. -/
opaque Config.freePins : Nat → BitVec 34

/-- FREE VALUE (R173, U2; assumption 4). BOT's `tx_data` in a cycle with `tx_valid = 0`. -/
opaque Config.freeTxData : Nat → Byte

/-- FREE VALUE (R36, R272, U1; assumption 5). Byte `i` of the CBW buffer after the `n`-th reset draw. -/
opaque Config.freeCbw : Nat → Nat → Byte

end Sys2Proof
end

