-- ==== Sys2Proof/Syntax.lean ====
section
/-!
DEFINITION. The instructions of the two blocks: one constructor per row of opcode_table.json.

BOT's instructions are whole Command Block Wrappers; they carry every field of the CBW format
(30_encoding.md R91, R93), also the fields no rule reads, so that no bit of an encoding is dropped.
ARB's instructions are one cycle's inputs of both sides (10_state.md R21), sorted by arbitration case.
-/

namespace Sys2Proof

/-- A side's operating mode (30_encoding.md R101). -/
inductive OpMode where
  | normal
  | chirp
  | rawDrive
  /-- The code 0b11, outside the interface contract (R101, R132). -/
  | reserved
deriving DecidableEq, Repr

/-- One side's inputs to ARB in one cycle (10_state.md R21). -/
structure SideIn where
  /-- `s.op_mode` -/
  opMode : OpMode
  /-- `s.tx_valid` -/
  txValid : Bool
  /-- `s.tx_data` -/
  txData : Byte
deriving DecidableEq, Repr

/-- The fields of a CDB10 after its operation code (30_encoding.md R93). -/
structure CdbFields where
  /-- CDB byte 1: flags. -/
  flags : Byte
  /-- CDB bytes 2..5: the logical block address, big-endian. -/
  lba : Word32
  /-- CDB byte 6: group number. -/
  group : Byte
  /-- CDB bytes 7..8: transfer length in blocks, big-endian. -/
  transferLength : Half
  /-- CDB byte 9: control. -/
  control : Byte
deriving DecidableEq, Repr

/-- The fields of a CBW other than its signature and its operation code (30_encoding.md R91). -/
structure CbwFields where
  /-- Bytes 4..7: dCBWTag, written little-endian as in R108. -/
  tag : Word32
  /-- Bytes 8..11: dCBWDataTransferLength, little-endian. -/
  dataTransferLength : Word32
  /-- Byte 12: bmCBWFlags. -/
  flags : Byte
  /-- Byte 13: bCBWLUN. -/
  lun : Byte
  /-- Byte 14: bCBWCBLength. -/
  cbLength : Byte
  /-- Bytes 16..24: the CDB10 after its operation code. -/
  cdb : CdbFields
  /-- Bytes 25..30, present only when CBW_LEN = 31. -/
  pad : List Byte
deriving DecidableEq, Repr

/-- The opcode table. -/
inductive Instr where
  /-- BAD_SIGNATURE (41_bot_transport.md R165): a CBW whose signature is not the magic. -/
  | badSignature (signature : Word32) (opcode : Byte) (c : CbwFields)
  /-- TEST_UNIT_READY (42_scsi_commands.md R201), opcode 0x00. -/
  | testUnitReady (c : CbwFields)
  /-- READ_CAPACITY(10) (R205), opcode 0x25. -/
  | readCapacity10 (c : CbwFields)
  /-- READ(10) (R215), opcode 0x28. -/
  | read10 (c : CbwFields)
  /-- Any other opcode (R220). -/
  | other (opcode : Byte) (c : CbwFields)
  /-- DEV_CHIRP_K (40_link_arbiter.md R122): the device chirps a zero byte. -/
  | devChirpK (h d : SideIn)
  /-- DEV_CHIRP_J (R122): the device chirps a non-zero byte. -/
  | devChirpJ (h d : SideIn)
  /-- HOST_CHIRP (R123). -/
  | hostChirp (h d : SideIn)
  /-- HOST_RESET (R124). -/
  | hostReset (h d : SideIn)
  /-- PACKET (R125). -/
  | packet (h d : SideIn)
  /-- IDLE (R126). -/
  | idle (h d : SideIn)
  /-- RESERVED_OPMODE (R132): a side presents op_mode 0b11. -/
  | reservedOpmode (h d : SideIn)
deriving DecidableEq, Repr

end Sys2Proof
end

