-- ==== Sys2Proof/WellFormed.lean ====
section
/-!
DEFINITION. Which terms of `Instr` some word of the hardware encodes: each constructor's match
condition of opcode_table.json (30_encoding.md R91, R104, R109), written per constructor and
independently of the decoder's priority chain.
-/

namespace Sys2Proof

/-- R91, R107: the record is CBW_LEN bytes long, so the padding is what CBW_LEN leaves after the CDB10. -/
def CbwFields.wf (cfg : Config) (c : CbwFields) : Bool :=
  (cfg.cbwLen == 25 || cfg.cbwLen == 31) && (c.pad.length + 25 == cfg.cbwLen)

/-- R101: the mode is one of the three the interface contract names. -/
def SideIn.contract (x : SideIn) : Bool :=
  x.opMode != .reserved

/-- R109: the side is in CHIRP mode and transmits. -/
def SideIn.chirps (x : SideIn) : Bool :=
  x.opMode == .chirp && x.txValid

/-- R109, row HOST_RESET: the host's own columns. -/
def SideIn.drivesReset (cfg : Config) (x : SideIn) : Bool :=
  x.opMode == .rawDrive && (x.txValid || !cfg.resetRequiresTxValid)

/-- The term is the reading of some word of a machine with this configuration. -/
def Instr.wf (cfg : Config) : Instr → Bool
  | .badSignature signature _ c => signature != 0x43425355 && c.wf cfg
  | .testUnitReady c => c.wf cfg
  | .readCapacity10 c => c.wf cfg
  | .read10 c => c.wf cfg
  | .other opcode c => opcode != 0x00 && opcode != 0x25 && opcode != 0x28 && c.wf cfg
  | .devChirpK h d => h.contract && d.chirps && d.txData == 0
  | .devChirpJ h d => h.contract && d.chirps && d.txData != 0
  | .hostChirp h d => d.contract && !d.chirps && h.chirps
  | .hostReset h d => d.contract && !d.chirps && h.drivesReset cfg
  | .packet h d =>
    h.contract && d.contract && !d.chirps && !h.chirps && !h.drivesReset cfg && (h.txValid || d.txValid)
  | .idle h d =>
    h.contract && d.contract && !h.drivesReset cfg && !h.txValid && !d.txValid
  | .reservedOpmode h d => !h.contract || !d.contract

end Sys2Proof
end

