-- ==== Sys2Proof/Decode.lean ====
section
/-!
DEFINITION. The two decoders of the hardware and their encoder.

BOT decodes the bytes of a CBW (30_encoding.md R91 to R93, R104, R105); ARB decodes the op-mode,
tx_valid and tx_data inputs of both sides (R101, R109, 40_link_arbiter.md R127). Both are total: a
CBW record of a length that is neither 25 nor 31 bytes is rejected by name, and every other word
has exactly one reading.
-/

namespace Sys2Proof

/-! ### Byte order (00_scope.md R12) -/

/-- `be32(b0,b1,b2,b3)`: the 32-bit value whose most significant byte is `b0`. -/
def be32 (b0 b1 b2 b3 : Byte) : Word32 := b0 ++ b1 ++ b2 ++ b3

/-- `le32(b0,b1,b2,b3)`: the 32-bit value whose least significant byte is `b0`. -/
def le32 (b0 b1 b2 b3 : Byte) : Word32 := b3 ++ b2 ++ b1 ++ b0

/-- The 16-bit value whose most significant byte is `b0`. -/
def be16 (b0 b1 : Byte) : Half := b0 ++ b1

/-- `bytes_be32(v) = [v[31:24], v[23:16], v[15:8], v[7:0]]`. -/
def bytesBe32 (v : Word32) : List Byte :=
  [v.extractLsb' 24 8, v.extractLsb' 16 8, v.extractLsb' 8 8, v.extractLsb' 0 8]

/-- `bytes_le32(v) = [v[7:0], v[15:8], v[23:16], v[31:24]]`. -/
def bytesLe32 (v : Word32) : List Byte :=
  [v.extractLsb' 0 8, v.extractLsb' 8 8, v.extractLsb' 16 8, v.extractLsb' 24 8]

/-- The two bytes of a big-endian 16-bit field (R93). -/
def bytesBe16 (v : Half) : List Byte :=
  [v.extractLsb' 8 8, v.extractLsb' 0 8]

/-! ### BOT: the CBW (R91 to R93, R104, R105) -/

/-- The CBW magic 0x43425355, "USBC" (R92). -/
def cbwMagic : Word32 := 0x43425355

/-- CDB_OFF, the offset of the CDB within the CBW (R8, R91). -/
def cdbOff : Nat := 15

/-- The operation codes of R104. -/
def opTestUnitReady : Byte := 0x00
def opReadCapacity10 : Byte := 0x25
def opRead10 : Byte := 0x28

/-- Byte `i` of a record; a record has no byte beyond its end, where this reads as zero (assumption 6). -/
def byteAt (bytes : List Byte) (i : Nat) : Byte := bytes.getD i 0

/-- `sig := le32(cbw[0..3])` (R99). -/
def recordSignature (bytes : List Byte) : Word32 :=
  le32 (byteAt bytes 0) (byteAt bytes 1) (byteAt bytes 2) (byteAt bytes 3)

/-- `opcode := cbw[CDB_OFF + 0]` (R99). -/
def recordOpcode (bytes : List Byte) : Byte := byteAt bytes cdbOff

/-- The CDB fields after the operation code (R93). -/
def recordCdb (bytes : List Byte) : CdbFields where
  flags := byteAt bytes (cdbOff + 1)
  lba := be32 (byteAt bytes (cdbOff + 2)) (byteAt bytes (cdbOff + 3)) (byteAt bytes (cdbOff + 4))
    (byteAt bytes (cdbOff + 5))
  group := byteAt bytes (cdbOff + 6)
  transferLength := be16 (byteAt bytes (cdbOff + 7)) (byteAt bytes (cdbOff + 8))
  control := byteAt bytes (cdbOff + 9)

/-- The CBW fields other than signature and operation code (R91). -/
def recordFields (bytes : List Byte) : CbwFields where
  tag := le32 (byteAt bytes 4) (byteAt bytes 5) (byteAt bytes 6) (byteAt bytes 7)
  dataTransferLength := le32 (byteAt bytes 8) (byteAt bytes 9) (byteAt bytes 10) (byteAt bytes 11)
  flags := byteAt bytes 12
  lun := byteAt bytes 13
  cbLength := byteAt bytes 14
  cdb := recordCdb bytes
  pad := bytes.drop 25

/-- Why a word has no reading. -/
inductive DecodeReject where
  /-- R91, R107: a CBW is 31 or 25 bytes long. -/
  | cbwLength (n : Nat)
deriving DecidableEq, Repr

/-- R105: the signature is tested first, then the operation code by the map of R104. -/
def decodeCommand (bytes : List Byte) : Instr :=
  if recordSignature bytes ≠ cbwMagic then
    .badSignature (recordSignature bytes) (recordOpcode bytes) (recordFields bytes)
  else if recordOpcode bytes = opTestUnitReady then .testUnitReady (recordFields bytes)
  else if recordOpcode bytes = opReadCapacity10 then .readCapacity10 (recordFields bytes)
  else if recordOpcode bytes = opRead10 then .read10 (recordFields bytes)
  else .other (recordOpcode bytes) (recordFields bytes)

/-- BOT's decoder, total on any bytes. -/
def decodeCbw (bytes : List Byte) : Except DecodeReject Instr :=
  if bytes.length = 25 ∨ bytes.length = 31 then .ok (decodeCommand bytes)
  else .error (.cbwLength bytes.length)

/-! ### ARB: the arbitration inputs (R101, R109, R121, R127) -/

/-- R101: the op-mode codes. -/
def OpMode.code : OpMode → BitVec 2
  | .normal => 0b00
  | .chirp => 0b01
  | .rawDrive => 0b10
  | .reserved => 0b11

/-- The mode a code stands for (R101). -/
def OpMode.ofCode (b : BitVec 2) : OpMode :=
  if b = 0b00 then .normal else if b = 0b01 then .chirp else if b = 0b10 then .rawDrive else .reserved

/-- A side's eleven input bits: `op_mode` in bits 1:0, `tx_valid` in bit 2, `tx_data` in bits 10:3
(assumption 7: the spec gives the ports no positions in a word). -/
def SideIn.ofBits (b : BitVec 11) : SideIn where
  opMode := OpMode.ofCode (b.extractLsb' 0 2)
  txValid := b.getLsbD 2
  txData := b.extractLsb' 3 8

/-- The eleven input bits of a side (assumption 7). -/
def SideIn.toBits (x : SideIn) : BitVec 11 :=
  x.txData ++ BitVec.ofBool x.txValid ++ x.opMode.code

/-- `chirp_tx(s)` of R121. -/
def chirpTx (x : SideIn) : Bool := x.opMode == .chirp && x.txValid

/-- `host_reset` of R121. -/
def hostResetDriven (requiresTxValid : Bool) (h : SideIn) : Bool :=
  h.opMode == .rawDrive && (!requiresTxValid || h.txValid)

/-- The priority chain of R127, first match wins; the reserved op mode is checked before every case (R132). -/
def decodeArb (requiresTxValid : Bool) (h d : SideIn) : Instr :=
  if h.opMode = .reserved ∨ d.opMode = .reserved then .reservedOpmode h d
  else if chirpTx d then if d.txData = 0 then .devChirpK h d else .devChirpJ h d
  else if chirpTx h then .hostChirp h d
  else if hostResetDriven requiresTxValid h then .hostReset h d
  else if h.txValid || d.txValid then .packet h d
  else .idle h d

/-! ### Words of either block -/

/-- What the hardware decodes: a received record (BOT) or one cycle's arbitration inputs (ARB),
the device side in bits 10:0 and the host side in bits 21:11 (assumption 7). -/
inductive CodeWord where
  | cbw (bytes : List Byte)
  | arbIn (w : BitVec 22)
deriving DecidableEq, Repr

/-- The device side's inputs of an arbitration word. -/
def deviceSide (w : BitVec 22) : SideIn := SideIn.ofBits (w.extractLsb' 0 11)

/-- The host side's inputs of an arbitration word. -/
def hostSide (w : BitVec 22) : SideIn := SideIn.ofBits (w.extractLsb' 11 11)

/-- Decoding, total on every word of either block. -/
def decode (cfg : Config) : CodeWord → Except DecodeReject Instr
  | .cbw bytes => decodeCbw bytes
  | .arbIn w => .ok (decodeArb cfg.resetRequiresTxValid (hostSide w) (deviceSide w))

/-! ### The encoder (R91, R93, R108 for CBWs; R101 for arbitration inputs) -/

/-- The record of a CBW with the given signature, operation code and fields (R91, R93). -/
def encodeCbw (signature : Word32) (opcode : Byte) (c : CbwFields) : List Byte :=
  bytesLe32 signature ++ bytesLe32 c.tag ++ bytesLe32 c.dataTransferLength
    ++ [c.flags, c.lun, c.cbLength, opcode, c.cdb.flags] ++ bytesBe32 c.cdb.lba ++ [c.cdb.group]
    ++ bytesBe16 c.cdb.transferLength ++ [c.cdb.control] ++ c.pad

/-- One cycle's arbitration inputs as a word (assumption 7). -/
def encodeArb (h d : SideIn) : BitVec 22 := h.toBits ++ d.toBits

/-- The word of an instruction. -/
def encode : Instr → CodeWord
  | .badSignature signature opcode c => .cbw (encodeCbw signature opcode c)
  | .testUnitReady c => .cbw (encodeCbw cbwMagic opTestUnitReady c)
  | .readCapacity10 c => .cbw (encodeCbw cbwMagic opReadCapacity10 c)
  | .read10 c => .cbw (encodeCbw cbwMagic opRead10 c)
  | .other opcode c => .cbw (encodeCbw cbwMagic opcode c)
  | .devChirpK h d => .arbIn (encodeArb h d)
  | .devChirpJ h d => .arbIn (encodeArb h d)
  | .hostChirp h d => .arbIn (encodeArb h d)
  | .hostReset h d => .arbIn (encodeArb h d)
  | .packet h d => .arbIn (encodeArb h d)
  | .idle h d => .arbIn (encodeArb h d)
  | .reservedOpmode h d => .arbIn (encodeArb h d)

/-! ### Words as opcode_table.json numbers them -/

/-- Byte `i` of a word numbered with bit 0 the least significant bit of its first byte. -/
def wordByte (w i : Nat) : Byte := BitVec.ofNat 8 (w >>> (8 * i))

/-- The first `n` bytes of such a word. -/
def wordBytes (w n : Nat) : List Byte := (List.range n).map (wordByte w)

/-- The code word an opcode-table word stands for (assumption 8): 8 bits are a CDB10's operation
code and 80 bits a whole CDB10, in a CBW whose signature is valid and whose other bytes are zero;
32 bits are a CBW's signature with every later byte zero; 200 or 248 bits are a whole CBW; 22 bits,
or 24 as whole bytes, are one cycle's arbitration inputs. -/
def tableWord (cbwLen nbits w : Nat) : Option CodeWord :=
  match nbits with
  | 8 => some (.cbw (bytesLe32 cbwMagic ++ List.replicate 11 0 ++ [wordByte w 0]
      ++ List.replicate (cbwLen - 16) 0))
  | 80 => some (.cbw (bytesLe32 cbwMagic ++ List.replicate 11 0 ++ wordBytes w 10
      ++ List.replicate (cbwLen - 25) 0))
  | 32 => some (.cbw (wordBytes w 4 ++ List.replicate (cbwLen - 4) 0))
  | 200 => some (.cbw (wordBytes w 25 ++ List.replicate (cbwLen - 25) 0))
  | 248 => some (.cbw (wordBytes w cbwLen))
  | 22 => some (.arbIn (BitVec.ofNat 22 w))
  | 24 => some (.arbIn (BitVec.ofNat 22 w))
  | _ => none

/-- What the decoder reads from an opcode-table word, at the standard configuration. -/
def decodeTableWord (nbits w : Nat) : Option Instr :=
  match tableWord Config.standard.cbwLen nbits w with
  | none => none
  | some word => (decode Config.standard word).toOption

end Sys2Proof
end

