-- ==== Sys2Proof/Machine/State.lean ====
section
/-!
DEFINITION. The machine's state: the registers of ARB (10_state.md R24, R25) and BOT (R30 to R36),
the configuration (00_scope.md R8), the port values and trace events of the cycles already run
(R22, R28, R29), and the pin values of the cycles to come.

The state is one for both blocks, because they step in lock-step on one clock (60_exceptions.md
R254); the blocks share no register (R20).
-/

namespace Sys2Proof.Machine

/-- A line state (30_encoding.md R100). -/
inductive LineState where
  | se0
  | j
  | k
  /-- SE1, which ARB never produces (R131). -/
  | se1
deriving DecidableEq, Repr

/-- The arbitration case reported on `arb_case` (R102). -/
inductive ArbCase where
  | idle
  | devChirpK
  | devChirpJ
  | hostChirp
  | hostReset
  | packet
deriving DecidableEq, Repr

/-- The BOT state register `st` (R30, R103): exactly five values. -/
inductive BotState where
  | recvCbw
  | processCbw
  | sendCapacity
  | sendData
  | sendCsw
deriving DecidableEq, Repr

/-- The two values of the CSW status byte (R95). -/
inductive CswStatus where
  | passed
  | failed
deriving DecidableEq, Repr

/-- The trace events of 60_exceptions.md R252, as data. -/
inductive TraceEvent where
  | opcode (op : Byte)
  | cswStatus (status : CswStatus)
deriving DecidableEq, Repr

/-- ARB's outputs to one side (10_state.md R22). -/
structure SideOut where
  txReady : Bool
  rxValid : Bool
  rxActive : Bool
  rxData : Byte
  lineState : LineState
deriving DecidableEq, Repr

/-- The values of ARB's ports in one cycle: both sides' inputs (R21), both sides' outputs and the
case report (R22). -/
structure ArbRecord where
  hIn : SideIn
  dIn : SideIn
  hOut : SideOut
  dOut : SideOut
  arbCase : ArbCase
deriving DecidableEq, Repr

/-- BOT's inputs in one cycle (R20, R27, R28). -/
structure BotIn where
  rst : Bool
  rxValid : Bool
  rxData : Byte
  txReady : Bool
deriving DecidableEq, Repr

/-- BOT's outputs in one cycle (R27, R28, 41_bot_transport.md R161). -/
structure BotOut where
  rxReady : Bool
  txValid : Bool
  txData : Byte
  txLast : Bool
deriving DecidableEq, Repr

/-- The values of BOT's ports in one cycle. -/
structure BotRecord where
  inp : BotIn
  out : BotOut
deriving DecidableEq, Repr

/-- What the outside world drives in one cycle: each block's reset (R20, 70_reset_and_hazards.md
R270), ARB's two sides and BOT's endpoints. In the direct composition (R285) only the resets and the
host side are pins. -/
structure Pins where
  arbRst : Bool
  botRst : Bool
  h : SideIn
  d : SideIn
  rxValid : Bool
  rxData : Byte
  txReady : Bool
deriving DecidableEq, Repr

/-- The whole state. -/
structure State where
  /-- The construction-time configuration (R8), which no step changes (R275; assumption 1). -/
  cfg : Config
  /-- `cnt_hd`: lead-time counter, host to device (R24). -/
  cntHd : Nat
  /-- `cnt_dh`: lead-time counter, device to host (R25). -/
  cntDh : Nat
  /-- `st` (R30). -/
  st : BotState
  /-- `rx_off`: CBW receive offset (R31). -/
  rxOff : Nat
  /-- `tx_cur`: transmit cursor (R32). -/
  txCur : Nat
  /-- `ready`: the ready latch (R33). -/
  ready : Bool
  /-- `polls`: the readiness counter (R34). -/
  polls : Nat
  /-- `fail`: the sticky fail flag (R35). -/
  fail : Bool
  /-- `cbw[0..CBW_LEN-1]`: the CBW buffer (R36). -/
  cbw : List Byte
  /-- The trace events emitted so far, newest first (R29, R252; assumption 9). -/
  trace : List TraceEvent
  /-- ARB's port values of the cycles run so far, newest first (assumption 9). -/
  arbLog : List ArbRecord
  /-- BOT's port values of the cycles run so far, newest first (assumption 9). -/
  botLog : List BotRecord
  /-- The pin values of the cycles to come, next cycle first (assumption 3). -/
  script : List Pins
  /-- The free-value counter, advanced by every step (assumptions 3 to 5). -/
  draws : Nat
deriving DecidableEq, Repr

/-- The hardware has no fault: 60_exceptions.md R240, "Neither block raises an exception, traps,
halts or enters a fault state." So this type has no constructor, and no step of the model faults. -/
inductive Fault : Type
deriving DecidableEq, Repr

/-- The steps with no meaning (60_exceptions.md R249). -/
inductive Refusal where
  /-- `exec`, for an instruction with no meaning yet; no arm raises it. Safe: nothing is claimed of such a run. -/
  | notModelled (mnemonic : String)
  /-- R_OPMODE (R132, R249): `execReservedOpmode`, when an ARB side presents op_mode 0b11. Safe: the
  spec itself refuses the step. -/
  | reservedOpMode
  /-- R_CONFIG (R8, R212, R249): the step, for a configuration outside the ranges of R8. Safe: the
  spec itself refuses the configuration. -/
  | badConfig
  /-- BOT's PROCESS_CBW cycle, when the buffer is no CBW record (its length is neither 25 nor 31).
  Safe: no state with the buffer length of R36 raises it (assumption 6). -/
  | undecodable (reason : DecodeReject)
deriving DecidableEq, Repr

/-- The buffer's unspecified contents after a reset, "any bytes" (R36, R272; assumption 5). -/
def freeBuffer (cbwLen draw : Nat) : List Byte :=
  (List.range cbwLen).map (Config.freeCbw draw)

/-- Construction of the machine is a reset (R270): the reset values of R42, R271 and R272. -/
def State.construct (cfg : Config) : State where
  cfg := cfg
  cntHd := 0
  cntDh := 0
  st := .recvCbw
  rxOff := 0
  txCur := 0
  ready := false
  polls := 0
  fail := false
  cbw := freeBuffer cfg.cbwLen 0
  trace := []
  arbLog := []
  botLog := []
  script := []
  draws := 0

/-- The machine right after reset, at the standard configuration (assumption 2). -/
def State.reset : State := State.construct Config.standard

end Sys2Proof.Machine
end

