-- ==== Sys2Proof/Machine/Ops.lean ====
section
/-!
DEFINITION. The named operations over the registers, the record buffer and the logs.

There is no addressable memory (20_memory.md R60): the CBW buffer is the only stored array, written
by `storeCbw` alone. There is no exception entry and no return from one (60_exceptions.md R240,
R248); the shared operation that stands in their place, answering a command with a CSW, is `toCsw`.
-/

namespace Sys2Proof.Machine

/-! ### Fixed parameters (00_scope.md R8) -/

/-- CSW_LEN. -/
def cswLen : Nat := 13

/-- CAP_LEN. -/
def capLen : Nat := 8

/-- TUR_FAIL_LIMIT. -/
def turFailLimit : Nat := 2

/-- R8, R249 (R_CONFIG): the ranges of the configuration. -/
def configValid (cfg : Config) : Bool :=
  decide (1 ≤ cfg.blockCount) && decide (cfg.blockCount ≤ 2 ^ 32) && decide (1 ≤ cfg.blockSize)
    && decide (cfg.blockSize < 2 ^ 32) && (cfg.cbwLen == 25 || cfg.cbwLen == 31)

/-! ### Register writes (R12: `r <- v`) -/

/-- `st <- S`. -/
def State.goto (s : State) (st : BotState) : State := { s with st := st }

/-- `rx_off <- n`. -/
def State.setRxOff (s : State) (n : Nat) : State := { s with rxOff := n }

/-- `tx_cur <- n`. -/
def State.setTxCur (s : State) (n : Nat) : State := { s with txCur := n }

/-- `ready <- b`. -/
def State.setReady (s : State) (b : Bool) : State := { s with ready := b }

/-- `polls <- n`. -/
def State.setPolls (s : State) (n : Nat) : State := { s with polls := n }

/-- `fail <- b`. -/
def State.setFail (s : State) (b : Bool) : State := { s with fail := b }

/-- `cbw[i] <- b` (R61: the only write to the buffer). -/
def State.storeCbw (s : State) (i : Nat) (b : Byte) : State := { s with cbw := s.cbw.set i b }

/-- `cbw[i]`. -/
def State.cbwByte (s : State) (i : Nat) : Byte := byteAt s.cbw i

/-- `cnt_hd <- hd`, `cnt_dh <- dh`. -/
def State.setCounters (s : State) (hd dh : Nat) : State := { s with cntHd := hd, cntDh := dh }

/-! ### Observations -/

/-- `emit E` (R12, R252). -/
def State.emit (s : State) (e : TraceEvent) : State := { s with trace := e :: s.trace }

/-- The values of ARB's ports in this cycle (assumption 9). -/
def State.logArb (s : State) (r : ArbRecord) : State := { s with arbLog := r :: s.arbLog }

/-- The values of BOT's ports in this cycle (assumption 9). -/
def State.logBot (s : State) (r : BotRecord) : State := { s with botLog := r :: s.botLog }

/-- The end of a cycle: its pin values and its free values are used up. -/
def State.endCycle (s : State) : State := { s with script := s.script.tail, draws := s.draws + 1 }

/-! ### Answering a command -/

/-- `st <- SEND_CSW`: every command outcome but a discard is reported by the CSW (R240, R246). -/
def State.toCsw (s : State) : State := s.goto .sendCsw

/-! ### Reset (70_reset_and_hazards.md R270 to R272) -/

/-- R271: ARB's registers at an edge with `rst == 1`. -/
def State.resetArb (s : State) : State := s.setCounters 0 0

/-- R272: BOT's registers at an edge with `rst == 1`; the buffer is left unspecified (assumption 5). -/
def State.resetBot (s : State) : State :=
  { s with
    st := .recvCbw
    rxOff := 0
    txCur := 0
    ready := false
    polls := 0
    fail := false
    cbw := freeBuffer s.cfg.cbwLen (s.draws + 1) }

end Sys2Proof.Machine
end

