-- ==== Sys2Proof/Machine/Operands.lean ====
section
/-!
DEFINITION. The operands of both blocks: the pin values of the cycle, the codes of the observed
signals (30_encoding.md R95, R100, R102, R103), the operands read from the CBW buffer (R99), the
three emitted record spaces (20_memory.md R62 to R64) and BOT's combinational outputs
(41_bot_transport.md R161).
-/

namespace Sys2Proof.Machine

/-! ### Codes of observed signals -/

/-- R100. -/
def LineState.code : LineState → BitVec 2
  | .se0 => 0b00
  | .j => 0b01
  | .k => 0b10
  | .se1 => 0b11

/-- R102. -/
def ArbCase.code : ArbCase → BitVec 3
  | .idle => 0
  | .devChirpK => 1
  | .devChirpJ => 2
  | .hostChirp => 3
  | .hostReset => 4
  | .packet => 5

/-- R103. -/
def BotState.code : BotState → BitVec 3
  | .recvCbw => 0
  | .processCbw => 1
  | .sendCapacity => 2
  | .sendData => 3
  | .sendCsw => 4

/-- R95: PASSED = 0x00, FAILED = 0x01. -/
def CswStatus.code : CswStatus → Byte
  | .passed => 0x00
  | .failed => 0x01

/-! ### Pins -/

/-- The pin values a 34-bit word stands for: the arbitration inputs as in `encodeArb`, then ARB's
reset, BOT's reset, `rx_valid`, `rx_data` and `tx_ready`. Only the free pin values are read through
it, so every combination of pin values is one of its values (assumption 3). -/
def Pins.ofBits (b : BitVec 34) : Pins where
  d := deviceSide (b.extractLsb' 0 22)
  h := hostSide (b.extractLsb' 0 22)
  arbRst := b.getLsbD 22
  botRst := b.getLsbD 23
  rxValid := b.getLsbD 24
  rxData := b.extractLsb' 25 8
  txReady := b.getLsbD 33

/-- Quiet pins: no reset, both sides NORMAL and not transmitting, no byte offered and none accepted. -/
def Pins.quiet : Pins where
  arbRst := false
  botRst := false
  h := ⟨.normal, false, 0⟩
  d := ⟨.normal, false, 0⟩
  rxValid := false
  rxData := 0
  txReady := false

/-- The pin values of this cycle: those the state lists, or free values (assumption 3). -/
def State.pins (s : State) : Pins :=
  match s.script with
  | p :: _ => p
  | [] => Pins.ofBits (Config.freePins s.draws)

/-! ### Operands in the CBW buffer (R99) -/

/-- `lba_lo := cbw[CDB_OFF + 5]`. -/
def State.lbaLo (s : State) : Byte := s.cbwByte (cdbOff + 5)

/-- `tag_bytes := cbw[4..7]`, never interpreted (R65). -/
def State.tagBytes (s : State) : List Byte := [s.cbwByte 4, s.cbwByte 5, s.cbwByte 6, s.cbwByte 7]

/-! ### Record spaces (20_memory.md R62 to R64) -/

/-- `last_lba = (BLOCK_COUNT - 1) mod 2^32` (R62, R212). -/
def lastLba (cfg : Config) : Word32 := BitVec.ofNat 32 (cfg.blockCount - 1)

/-- The capacity record (R62, R97). -/
def capRecord (cfg : Config) : List Byte :=
  bytesBe32 (lastLba cfg) ++ bytesBe32 (BitVec.ofNat 32 cfg.blockSize)

/-- `data_rec(i)` (R63). -/
def State.dataRec (s : State) (i : Nat) : Byte := BitVec.ofNat 8 i ^^^ s.lbaLo

/-- The CSW signature 0x53425355, "USBS" (R96). -/
def cswMagic : Word32 := 0x53425355

/-- The status the fail flag stands for (R64, R95). -/
def State.status (s : State) : CswStatus := if s.fail then .failed else .passed

/-- The CSW record (R64, R94, R177): signature, echoed tag, zero residue, status. -/
def State.cswRecord (s : State) : List Byte :=
  bytesLe32 cswMagic ++ s.tagBytes ++ [0x00, 0x00, 0x00, 0x00] ++ [s.status.code]

/-! ### BOT's combinational outputs (41_bot_transport.md R161) -/

/-- The state is one of the SEND states. -/
def BotState.sends : BotState → Bool
  | .recvCbw => false
  | .processCbw => false
  | .sendCapacity => true
  | .sendData => true
  | .sendCsw => true

/-- `rec_len`; outside the SEND states no record is emitted. -/
def State.recLen (s : State) : Nat :=
  match s.st with
  | .recvCbw => 0
  | .processCbw => 0
  | .sendCapacity => capLen
  | .sendData => s.cfg.blockSize
  | .sendCsw => cswLen

/-- `tx_data`; outside the SEND states a free value (R173). -/
def State.txData (s : State) : Byte :=
  match s.st with
  | .recvCbw => Config.freeTxData s.draws
  | .processCbw => Config.freeTxData s.draws
  | .sendCapacity => byteAt (capRecord s.cfg) s.txCur
  | .sendData => s.dataRec s.txCur
  | .sendCsw => byteAt s.cswRecord s.txCur

/-- The cursor stands on the record's final byte. -/
def State.onLastByte (s : State) : Bool := s.txCur == s.recLen - 1

/-- BOT's outputs in this cycle (R161, R173). -/
def State.botOut (s : State) : BotOut where
  rxReady := s.st == .recvCbw
  txValid := s.st.sends
  txData := s.txData
  txLast := s.st.sends && s.onLastByte

/-! ### Wiring (70_reset_and_hazards.md R285) -/

/-- ARB's device-side inputs: pins, or BOT's transmit endpoint in the direct composition. -/
def State.deviceIn (s : State) (p : Pins) : SideIn :=
  match s.cfg.wiring with
  | .independent => p.d
  | .direct => { opMode := .normal, txValid := s.botOut.txValid, txData := s.botOut.txData }

end Sys2Proof.Machine
end

