-- ==== Sys2Proof/Machine/Flags.lean ====
section
/-!
DEFINITION. Every computation of BOT's status flags `fail`, `polls` and `ready` (10_state.md R33 to
R35, R38). ARB has no flags.
-/

namespace Sys2Proof.Machine

/-- The upcoming CSW is marked FAILED: `fail <- 1` (E_NOT_READY and E_SCRIPTED, 60_exceptions.md R241). -/
def State.markFailed (s : State) : State := s.setFail true

/-- TEST_UNIT_READY's flags (42_scsi_commands.md R201): a scripted failure while `polls` is below
its limit, and then the ready latch. -/
def State.pollReadiness (s : State) : State :=
  if s.polls < turFailLimit then s.markFailed.setPolls (s.polls + 1) else s.setReady true

/-- `fail <- 0`, on the final CSW byte (41_bot_transport.md R171). -/
def State.clearFail (s : State) : State := s.setFail false

end Sys2Proof.Machine
end

