-- ==== Sys2Proof/Machine/Arbiter.lean ====
section
/-!
DEFINITION. The link negotiation arbiter (40_link_arbiter.md): one meaning per arbitration case,
over the shared byte relay (R140 to R148).

A meaning is the whole of ARB's cycle with the given inputs: the case decides the line state and
the report, and the relay runs in every case (R146).
-/

namespace Sys2Proof.Machine

/-- `kj(v)` (R121). -/
def kj (v : Byte) : LineState := if v = 0 then .k else .j

/-- R142: acceptance in the direction out of `src`, whose lead-time counter is `cnt`. -/
def relayAccept (pPreamble cnt : Nat) (src : SideIn) : Bool := src.txValid && cnt == pPreamble

/-- R140: the lead-time counter after the edge. -/
def relayCount (pPreamble cnt : Nat) (src : SideIn) : Nat :=
  if src.txValid then min (cnt + 1) pPreamble else 0

/-- The outputs to one side (R127, R141 to R144): `own` is the side's own inputs with the counter of
its transmit direction, `peer` the other side's. -/
def sideOut (pPreamble : Nat) (own : SideIn) (ownCnt : Nat) (peer : SideIn) (peerCnt : Nat)
    (ls : LineState) : SideOut where
  txReady := relayAccept pPreamble ownCnt own
  rxValid := relayAccept pPreamble peerCnt peer
  rxActive := peer.txValid
  rxData := peer.txData
  lineState := ls

/-- ARB's ports in a cycle whose arbitration answered line state `ls` and case `c`; both sides are
given the same line state (R127, R128). -/
def State.arbPorts (s : State) (h d : SideIn) (ls : LineState) (c : ArbCase) : ArbRecord where
  hIn := h
  dIn := d
  hOut := sideOut s.cfg.pPreamble h s.cntHd d s.cntDh ls
  dOut := sideOut s.cfg.pPreamble d s.cntDh h s.cntHd ls
  arbCase := c

/-- One cycle of ARB: its ports are as the case says, and both lead-time counters advance (R148). -/
def State.arbCycle (s : State) (h d : SideIn) (ls : LineState) (c : ArbCase) : State :=
  (s.logArb (s.arbPorts h d ls c)).setCounters
    (relayCount s.cfg.pPreamble s.cntHd h) (relayCount s.cfg.pPreamble s.cntDh d)

/-- DEV_CHIRP_K (R122): the device chirps a zero byte, so the line state is K. -/
def execDevChirpK (h d : SideIn) (s : State) : Host.Outcome State Fault Refusal :=
  .next (s.arbCycle h d .k .devChirpK)

/-- DEV_CHIRP_J (R122): the device chirps a non-zero byte, so the line state is J. -/
def execDevChirpJ (h d : SideIn) (s : State) : Host.Outcome State Fault Refusal :=
  .next (s.arbCycle h d .j .devChirpJ)

/-- HOST_CHIRP (R123): K or J by the host's byte, one event for both. -/
def execHostChirp (h d : SideIn) (s : State) : Host.Outcome State Fault Refusal :=
  .next (s.arbCycle h d (kj h.txData) .hostChirp)

/-- HOST_RESET (R124): SE0. It changes no register of BOT by itself (R274). -/
def execHostReset (h d : SideIn) (s : State) : Host.Outcome State Fault Refusal :=
  .next (s.arbCycle h d .se0 .hostReset)

/-- PACKET (R125): SE0 while bytes move. -/
def execPacket (h d : SideIn) (s : State) : Host.Outcome State Fault Refusal :=
  .next (s.arbCycle h d .se0 .packet)

/-- IDLE (R126): J. -/
def execIdle (h d : SideIn) (s : State) : Host.Outcome State Fault Refusal :=
  .next (s.arbCycle h d .j .idle)

/-- RESERVED_OPMODE (R132): "the step has no meaning. A model records a refusal and does not pick a
line state." -/
def execReservedOpmode (_h _d : SideIn) (_s : State) : Host.Outcome State Fault Refusal :=
  .refused .reservedOpMode

end Sys2Proof.Machine
end

