-- ==== Sys2Proof/Machine/Scsi.lean ====
section
/-!
DEFINITION. BOT's commands: what the PROCESS_CBW cycle does at its edge with the CBW it decoded
(41_bot_transport.md R165 to R167, 42_scsi_commands.md). The fields that no rule reads at dispatch
are operands without an effect (30_encoding.md R105); the tag and the LBA are read from the CBW
buffer while the answer is sent (R64, R63).
-/

namespace Sys2Proof.Machine

/-- BAD_SIGNATURE (R165, E_DISCARD): `st <- RECV_CBW`, no CSW and no trace event. -/
def execBadSignature (_signature : Word32) (_opcode : Byte) (_c : CbwFields) (s : State) :
    Host.Outcome State Fault Refusal :=
  .next (s.goto .recvCbw)

/-- TEST_UNIT_READY (R201). -/
def execTestUnitReady (_c : CbwFields) (s : State) : Host.Outcome State Fault Refusal :=
  .next (s.emit (.opcode opTestUnitReady)).pollReadiness.toCsw

/-- R205, R215: a command that needs readiness runs its data phase, or is answered FAILED at once. -/
def State.ifReady (s : State) (dataPhase : BotState) : State :=
  if s.ready then s.goto dataPhase else s.markFailed.toCsw

/-- READ_CAPACITY(10) (R205). -/
def execReadCapacity10 (_c : CbwFields) (s : State) : Host.Outcome State Fault Refusal :=
  .next ((s.emit (.opcode opReadCapacity10)).ifReady .sendCapacity)

/-- READ(10) (R215). -/
def execRead10 (_c : CbwFields) (s : State) : Host.Outcome State Fault Refusal :=
  .next ((s.emit (.opcode opRead10)).ifReady .sendData)

/-- Any other opcode (R220): acknowledged, with whatever the fail flag holds. -/
def execOther (opcode : Byte) (_c : CbwFields) (s : State) : Host.Outcome State Fault Refusal :=
  .next (s.emit (.opcode opcode)).toCsw

end Sys2Proof.Machine
end

