-- ==== Sys2Proof/Machine/Dispatch.lean ====
section
/-!
DEFINITION. The meaning of each instruction, one arm per row of opcode_table.json.
-/

namespace Sys2Proof.Machine

def exec (i : Instr) (s : State) : Host.Outcome State Fault Refusal :=
  match i with
  -- BOT: 41_bot_transport.md R165 and 42_scsi_commands.md
  | .badSignature signature opcode c => Sys2Proof.Machine.execBadSignature signature opcode c s
  | .testUnitReady c => Sys2Proof.Machine.execTestUnitReady c s
  | .readCapacity10 c => Sys2Proof.Machine.execReadCapacity10 c s
  | .read10 c => Sys2Proof.Machine.execRead10 c s
  | .other opcode c => Sys2Proof.Machine.execOther opcode c s
  -- ARB: 40_link_arbiter.md R122 to R126 and R132
  | .devChirpK h d => Sys2Proof.Machine.execDevChirpK h d s
  | .devChirpJ h d => Sys2Proof.Machine.execDevChirpJ h d s
  | .hostChirp h d => Sys2Proof.Machine.execHostChirp h d s
  | .hostReset h d => Sys2Proof.Machine.execHostReset h d s
  | .packet h d => Sys2Proof.Machine.execPacket h d s
  | .idle h d => Sys2Proof.Machine.execIdle h d s
  | .reservedOpmode h d => Sys2Proof.Machine.execReservedOpmode h d s

end Sys2Proof.Machine
end

