-- ==== Sys2Proof/Machine/Transport.lean ====
section
/-!
DEFINITION. BOT's transport engine outside PROCESS_CBW: receiving a CBW (41_bot_transport.md R162 to
R164) and emitting the records (R168 to R172), as the step function of R178 has them.
-/

namespace Sys2Proof.Machine

/-- RECV_CBW (R162 to R164): an offered byte is stored, and the last one starts PROCESS_CBW. -/
def State.receive (b : BotIn) (s : State) : State :=
  if b.rxValid then
    if s.rxOff = s.cfg.cbwLen - 1 then
      (((s.storeCbw s.rxOff b.rxData).setRxOff 0).setTxCur 0).goto .processCbw
    else (s.storeCbw s.rxOff b.rxData).setRxOff (s.rxOff + 1)
  else s

/-- The end of a record (R168, R169, R171): the cursor returns to 0; after the CSW the status is
traced, the fail flag is cleared and the next CBW is awaited. -/
def State.endRecord (s : State) : State :=
  match s.st with
  | .sendCsw => ((s.emit (.cswStatus s.status)).setTxCur 0).clearFail.goto .recvCbw
  | .sendCapacity => (s.setTxCur 0).toCsw
  | .sendData => (s.setTxCur 0).toCsw
  | .recvCbw => s
  | .processCbw => s

/-- A SEND state (R168 to R172): an accepted byte moves the cursor on or ends the record, and a
stalled one changes nothing. -/
def State.transmit (b : BotIn) (s : State) : State :=
  if b.txReady then if s.onLastByte then s.endRecord else s.setTxCur (s.txCur + 1) else s

end Sys2Proof.Machine
end

