-- ==== Sys2Proof/Machine/Cycle.lean ====
section
/-!
DEFINITION. One clock cycle of both blocks (00_scope.md R11, 60_exceptions.md R254): ARB runs the
case its inputs decode to, BOT runs its state machine, which in PROCESS_CBW runs the command its
buffer decodes to. The blocks share no register, so the order in which the cycle writes them cannot
be observed; every port value is computed from the registers before the edge (R11).
-/

namespace Sys2Proof.Machine

/-- The arbitration case of this cycle's inputs (R127). -/
def State.arbInstr (s : State) (p : Pins) : Instr :=
  decodeArb s.cfg.resetRequiresTxValid p.h (s.deviceIn p)

/-- The case is HOST_RESET (R124). -/
def isHostReset : Instr → Bool
  | .badSignature _ _ _ => false
  | .testUnitReady _ => false
  | .readCapacity10 _ => false
  | .read10 _ => false
  | .other _ _ => false
  | .devChirpK _ _ => false
  | .devChirpJ _ _ => false
  | .hostChirp _ _ => false
  | .hostReset _ _ => true
  | .packet _ _ => false
  | .idle _ _ => false
  | .reservedOpmode _ _ => false

/-- BOT's reset (R270), tied to the bus reset when the configuration says so (R274; assumption 10). -/
def State.botRst (s : State) (p : Pins) : Bool :=
  p.botRst || (s.cfg.busResetResetsBot && isHostReset (s.arbInstr p))

/-- BOT's inputs: pins, or ARB's device port in the direct composition (R285). -/
def State.botIn (s : State) (p : Pins) : BotIn :=
  match s.cfg.wiring with
  | .independent =>
    { rst := s.botRst p, rxValid := p.rxValid, rxData := p.rxData, txReady := p.txReady }
  | .direct =>
    { rst := s.botRst p
      rxValid := relayAccept s.cfg.pPreamble s.cntHd p.h
      rxData := p.h.txData
      txReady := relayAccept s.cfg.pPreamble s.cntDh (s.deviceIn p) }

/-- ARB's cycle: the case runs, and a reset at the edge takes precedence (R270, R271). -/
def arbEdge (p : Pins) (s : State) : Host.Outcome State Fault Refusal :=
  match exec (s.arbInstr p) s with
  | .next t => .next (if p.arbRst then t.resetArb else t)
  | .fault r => .fault r
  | .refused r => .refused r

/-- PROCESS_CBW (R165 to R167): the command in the buffer runs. -/
def processCbw (s : State) : Host.Outcome State Fault Refusal :=
  match decodeCbw s.cbw with
  | .ok i => exec i s
  | .error r => .refused (.undecodable r)

/-- BOT's edge (R178): a reset takes precedence; otherwise the rule of the present state applies. -/
def botEdge (b : BotIn) (s : State) : Host.Outcome State Fault Refusal :=
  if b.rst then .next s.resetBot
  else
    match s.st with
    | .recvCbw => .next (s.receive b)
    | .processCbw => processCbw s
    | .sendCapacity => .next (s.transmit b)
    | .sendData => .next (s.transmit b)
    | .sendCsw => .next (s.transmit b)

/-- One cycle of both blocks with the given pin values. A configuration outside R8's ranges is
refused (R249), and so is a cycle in which a side presents the reserved op mode (R132), whatever the
reset pins say (assumption 11). -/
def cycle (p : Pins) (s : State) : Host.Outcome State Fault Refusal :=
  if configValid s.cfg then
    match arbEdge p s with
    | .next t =>
      match botEdge (s.botIn p) (t.logBot ⟨s.botIn p, s.botOut⟩) with
      | .next u => .next u.endCycle
      | .fault r => .fault r
      | .refused r => .refused r
    | .fault r => .fault r
    | .refused r => .refused r
  else .refused .badConfig

/-! ### Presenting one word to the machine (assumptions 8 and 12) -/

/-- The word stands where the next cycle decodes it: a CBW in the buffer with BOT in PROCESS_CBW
under quiet pins, or arbitration inputs on the next cycle's pins. -/
def State.present (s : State) : CodeWord → State
  | .cbw bytes =>
    { s with st := .processCbw, rxOff := 0, txCur := 0, cbw := bytes, script := Pins.quiet :: s.script }
  | .arbIn w =>
    { s with script := { Pins.quiet with h := hostSide w, d := deviceSide w } :: s.script }

/-- `present` for a word numbered as opcode_table.json numbers it. -/
def State.presentTableWord (s : State) (nbits w : Nat) : State :=
  match tableWord s.cfg.cbwLen nbits w with
  | some word => s.present word
  | none => s

end Sys2Proof.Machine
end

