-- ==== Sys2Proof/Machine/Step.lean ====
section
/-!
DEFINITION. The machine's step: one clock cycle of both blocks.
-/

namespace Sys2Proof.Machine

/-- One clock cycle (R11, R254), with the pin values the state lists for it, or free ones. -/
def step (s : State) : Host.Outcome State Fault Refusal := cycle s.pins s

/-- `s` with an opcode-table word where the next step decodes it (assumption 12). -/
def State.withFetchWord (s : State) (nbits w : Nat) : State := s.presentTableWord nbits w

end Sys2Proof.Machine
end

