-- ==== Sys2Proof/Safety.lean ====
section
/-!
DEFINITION. What claims call a good state: the invariants of 10_state.md R41 with the shape of the
CBW buffer (R36) and the receive offset's range (R31), and a cycle within the interface contract
(60_exceptions.md R240).
-/

namespace Sys2Proof.Machine

/-- The invariants of R41 (I-a to I-g), with R31's and R36's ranges. They are checks on plain data. -/
structure State.Inv (s : State) : Prop where
  /-- R36: the buffer has CBW_LEN bytes. -/
  bufferLength : s.cbw.length = s.cfg.cbwLen
  /-- R31: `rx_off` is in 0..CBW_LEN-1. -/
  offsetRange : s.rxOff < s.cfg.cbwLen
  /-- I-a. -/
  offsetZero : s.st ≠ .recvCbw → s.rxOff = 0
  /-- I-b. -/
  cursorZero : s.st = .recvCbw ∨ s.st = .processCbw → s.txCur = 0
  /-- I-c. -/
  failOnlyInCsw : s.st ≠ .sendCsw → s.fail = false
  /-- I-d. -/
  readyAfterPolls : s.ready = true → s.polls = turFailLimit
  /-- I-e. -/
  pollsBound : s.polls ≤ turFailLimit
  /-- I-e. -/
  hostCounterBound : s.cntHd ≤ s.cfg.pPreamble
  /-- I-e. -/
  deviceCounterBound : s.cntDh ≤ s.cfg.pPreamble
  /-- I-f. -/
  cursorRange : s.st.sends = true → s.txCur < s.recLen
  /-- I-g. -/
  dataNeedsReady : s.st = .sendCapacity ∨ s.st = .sendData → s.ready = true

/-- The cycle is within the interface contract: a configuration in R8's ranges, and no side
presenting the reserved op mode (R132, R249). -/
def State.InContract (s : State) : Prop :=
  configValid s.cfg = true ∧ s.pins.h.contract = true ∧ (s.deviceIn s.pins).contract = true

/-- `n` cycles, ending early at the first refusal. -/
def runCycles : Nat → State → Host.Outcome State Fault Refusal
  | 0, s => .next s
  | n + 1, s =>
    match step s with
    | .next t => runCycles n t
    | .fault r => .fault r
    | .refused r => .refused r

/-- The step completes. -/
def State.Safe (s : State) : Prop := ∃ t, step s = .next t

end Sys2Proof.Machine
end

