-- ==== Sys2Proof/Certificates/Slice0/Obligations.lean ====
section
/-!
DEFINITION. The statements about the model. Each docstring names the rule of spec/ it formalises.

Statements about a step write the pins of the cycle as `s.pins`, the device side's inputs as
`s.deviceIn s.pins` and BOT's inputs as `s.botIn s.pins` (pins, or the other block's port in the direct
composition, 70_reset_and_hazards.md R285). Log lists are newest first. No statement rests on the
value of a free value.
-/

namespace Sys2Proof.Claims

open Sys2Proof.Machine

/-! ### The rules' own expressions -/

/-- 40_link_arbiter.md R127 and R148 written out: ARB's state after a cycle with inputs `h`, `d` whose
arbitration answers line state `ls` and case `c`. Everything else of the state is as before. -/
def arbAfter (s : State) (h d : SideIn) (ls : LineState) (c : ArbCase) : State :=
  { s with
    cntHd := if h.txValid = true then min (s.cntHd + 1) s.cfg.pPreamble else 0
    cntDh := if d.txValid = true then min (s.cntDh + 1) s.cfg.pPreamble else 0
    arbLog :=
      { hIn := h
        dIn := d
        hOut :=
          { txReady := h.txValid && decide (s.cntHd = s.cfg.pPreamble)
            rxValid := d.txValid && decide (s.cntDh = s.cfg.pPreamble)
            rxActive := d.txValid
            rxData := d.txData
            lineState := ls }
        dOut :=
          { txReady := d.txValid && decide (s.cntDh = s.cfg.pPreamble)
            rxValid := h.txValid && decide (s.cntHd = s.cfg.pPreamble)
            rxActive := h.txValid
            rxData := h.txData
            lineState := ls }
        arbCase := c } :: s.arbLog }

/-- R127's `arbitrate`, as the pair of line-state code (30_encoding.md R100) and case code (R102). -/
def arbitrationCodes (cfg : Config) (h d : SideIn) : BitVec 2 × BitVec 3 :=
  if d.opMode = .chirp ∧ d.txValid = true then
    if d.txData = 0 then (0b10, 1) else (0b01, 2)
  else if h.opMode = .chirp ∧ h.txValid = true then
    if h.txData = 0 then (0b10, 3) else (0b01, 3)
  else if h.opMode = .rawDrive ∧ (cfg.resetRequiresTxValid = true → h.txValid = true) then (0b00, 4)
  else if h.txValid = true ∨ d.txValid = true then (0b00, 5)
  else (0b01, 0)

/-- The registers of BOT other than the transmit cursor and the state are as before. -/
def KeepsCommand (s t : State) : Prop :=
  t.rxOff = s.rxOff ∧ t.ready = s.ready ∧ t.polls = s.polls ∧ ∀ a, t.cbwByte a = s.cbwByte a

/-- No register of BOT has changed. -/
def KeepsBot (s t : State) : Prop :=
  t.st = s.st ∧ t.txCur = s.txCur ∧ t.fail = s.fail ∧ KeepsCommand s t

/-- The 13 bytes of 20_memory.md R64 for a given status byte. -/
def cswBytes (cbw : List Byte) (status : Byte) : List Byte :=
  [0x55, 0x53, 0x42, 0x53, byteAt cbw 4, byteAt cbw 5, byteAt cbw 6, byteAt cbw 7,
    0x00, 0x00, 0x00, 0x00, status]

/-- The 8 bytes of R62. -/
def capacityBytes (cfg : Config) : List Byte :=
  bytesBe32 (BitVec.ofNat 32 (cfg.blockCount - 1)) ++ bytesBe32 (BitVec.ofNat 32 cfg.blockSize)

/-- The BLOCK_SIZE bytes of R63: byte `i` is `i[7:0] ^ cbw[20]`. -/
def dataBytes (cfg : Config) (cbw : List Byte) : List Byte :=
  (List.range cfg.blockSize).map fun i => BitVec.ofNat 8 i ^^^ byteAt cbw 20

/-- The first four bytes are the CBW magic (30_encoding.md R92). -/
def signed (cbw : List Byte) : Bool :=
  byteAt cbw 0 == 0x55 && byteAt cbw 1 == 0x53 && byteAt cbw 2 == 0x42 && byteAt cbw 3 == 0x43

/-- What BOT answers to a CBW (20_memory.md R76, 42_scsi_commands.md R224), given the readiness latch and
the poll counter at dispatch. -/
def response (cfg : Config) (ready : Bool) (polls : Nat) (cbw : List Byte) : List Byte :=
  if signed cbw = false then []
  else if byteAt cbw 15 = 0x00 then cswBytes cbw (if polls < 2 then 0x01 else 0x00)
  else if byteAt cbw 15 = 0x25 then
    if ready = true then capacityBytes cfg ++ cswBytes cbw 0x00 else cswBytes cbw 0x01
  else if byteAt cbw 15 = 0x28 then
    if ready = true then dataBytes cfg cbw ++ cswBytes cbw 0x00 else cswBytes cbw 0x01
  else cswBytes cbw 0x00

/-- The bytes BOT transmitted in the cycles of a log, in the order they left (R13: both `tx_valid` and
`tx_ready` are 1). -/
def sentBytes (log : List BotRecord) : List Byte :=
  (log.reverse.filter fun r => r.out.txValid && r.inp.txReady).map fun r => r.out.txData

/-- The bytes ARB delivered to the device side in the cycles of a log, in order (R143). -/
def deliveredToDevice (log : List ArbRecord) : List Byte :=
  (log.reverse.filter fun r => r.dOut.rxValid).map fun r => r.dOut.rxData

/-- The bytes ARB delivered to the host side in the cycles of a log, in order (R143). -/
def deliveredToHost (log : List ArbRecord) : List Byte :=
  (log.reverse.filter fun r => r.hOut.rxValid).map fun r => r.hOut.rxData

/-! ### Environments of a run -/

/-- Pins of a cycle within the interface contract in which BOT is not reset. -/
def Calm (p : Pins) : Prop :=
  p.botRst = false ∧ p.h.contract = true ∧ p.d.contract = true

/-- On consecutive cycles the bytes are offered to BOT's receive endpoint, one a cycle. -/
def Feeds (bytes : List Byte) (ps : List Pins) : Prop :=
  ps.map (fun p => (p.rxValid, p.rxData)) = bytes.map fun b => (true, b)

/-- BOT's transmit endpoint is ready in every cycle. -/
def Accepts (ps : List Pins) : Prop := ∀ p ∈ ps, p.txReady = true

/-- The blocks stand alone and the bus reset is not tied to BOT: only pins drive BOT. -/
def BotAlone (cfg : Config) : Prop :=
  configValid cfg = true ∧ cfg.wiring = .independent ∧ cfg.busResetResetsBot = false

/-- The cycles of one command whose answer has `n` bytes: the CBW arrives on consecutive cycles, one
cycle passes, and every answer byte is taken at once (70_reset_and_hazards.md R290). -/
def IsTransaction (cfg : Config) (cbw : List Byte) (n : Nat) (ps : List Pins) : Prop :=
  ∃ (receive : List Pins) (process : Pins) (answer : List Pins),
    ps = receive ++ process :: answer ∧ (∀ p ∈ ps, Calm p) ∧ cbw.length = cfg.cbwLen ∧
    Feeds cbw receive ∧ Accepts answer ∧ answer.length = n

/-- BOT awaits the first byte of a CBW. -/
def AwaitsCbw (s : State) : Prop := s.st = .recvCbw ∧ s.rxOff = 0 ∧ s.txCur = 0 ∧ s.fail = false

/-- The trace of the commands numbered `k < n` of a session of TEST_UNIT_READYs, newest first. -/
def turTrace : Nat → List TraceEvent
  | 0 => []
  | n + 1 => .cswStatus (if n < 2 then .failed else .passed) :: .opcode 0x00 :: turTrace n

end Sys2Proof.Claims

open Sys2Proof Sys2Proof.Machine Sys2Proof.Claims

/-! ### Encoding and decoding -/

/-- Words written out from 95_test_vectors.md section 0 and 30_encoding.md R101, R108, R109 decode to
the instructions they stand for. -/
def Obligations.SpecWordsDecodeToTheirInstructions : Prop :=
  decode Config.standard (.cbw [0x55, 0x53, 0x42, 0x43, 0x11, 0x00, 0x00, 0x00, 0x00, 0x00, 0x00, 0x00,
      0x00, 0x00, 0x0A, 0x00, 0x00, 0x00, 0x00, 0x00, 0x00, 0x00, 0x00, 0x00, 0x00, 0x00, 0x00, 0x00,
      0x00, 0x00, 0x00])
    = .ok (.testUnitReady ⟨0x11, 0, 0, 0, 0x0A, ⟨0, 0, 0, 0, 0⟩, [0, 0, 0, 0, 0, 0]⟩) ∧
  decode Config.standard (.cbw [0x55, 0x53, 0x42, 0x43, 0xEF, 0xBE, 0xAD, 0xDE, 0x00, 0x02, 0x00, 0x00,
      0x80, 0x00, 0x0A, 0x28, 0x00, 0xFF, 0xFF, 0xFF, 0xFF, 0x00, 0x00, 0x01, 0x00, 0x00, 0x00, 0x00,
      0x00, 0x00, 0x00])
    = .ok (.read10 ⟨0xDEADBEEF, 512, 0x80, 0, 0x0A, ⟨0, 0xFFFFFFFF, 0, 1, 0⟩, [0, 0, 0, 0, 0, 0]⟩) ∧
  decode Config.standard (.arbIn 0b00000000_0_00_00000000_1_01)
    = .ok (.devChirpK ⟨.normal, false, 0x00⟩ ⟨.chirp, true, 0x00⟩) ∧
  decode Config.standard (.arbIn 0b11111111_1_01_00000000_0_00)
    = .ok (.hostChirp ⟨.chirp, true, 0xFF⟩ ⟨.normal, false, 0x00⟩)

/-- Decoding what a well-formed instruction encodes to gives the instruction back, with every field
(30_encoding.md R91, R93, R101, R104, R109). -/
def Obligations.DecodeOfEncodedInstruction : Prop :=
  ∀ (cfg : Config) (i : Instr), i.wf cfg = true → decode cfg (encode i) = .ok i

/-- The other direction: every word the decoders accept is the encoding of its reading, which is
well-formed when a received record has CBW_LEN bytes. -/
def Obligations.EncodeOfDecodedWord : Prop :=
  ∀ (cfg : Config) (w : CodeWord) (i : Instr), decode cfg w = .ok i →
    encode i = w ∧ ((∀ bytes, w = .cbw bytes → bytes.length = cfg.cbwLen) → i.wf cfg = true)

/-- R92: the signature check is the byte-for-byte comparison with 55 53 42 43. -/
def Obligations.SignatureCheckIsByteForByte : Prop :=
  ∀ bytes : List Byte, recordSignature bytes = cbwMagic ↔
    byteAt bytes 0 = 0x55 ∧ byteAt bytes 1 = 0x53 ∧ byteAt bytes 2 = 0x42 ∧ byteAt bytes 3 = 0x43

/-- R104, R105: the signature is tested first; a valid CBW is dispatched on all eight opcode bits. -/
def Obligations.SignatureIsTestedBeforeTheOpcode : Prop :=
  ∀ bytes : List Byte, bytes.length = 25 ∨ bytes.length = 31 →
    (signed bytes = false → ∃ sig op c, decodeCbw bytes = .ok (.badSignature sig op c)) ∧
    (signed bytes = true → byteAt bytes 15 = 0x00 → ∃ c, decodeCbw bytes = .ok (.testUnitReady c)) ∧
    (signed bytes = true → byteAt bytes 15 = 0x25 → ∃ c, decodeCbw bytes = .ok (.readCapacity10 c)) ∧
    (signed bytes = true → byteAt bytes 15 = 0x28 → ∃ c, decodeCbw bytes = .ok (.read10 c)) ∧
    (signed bytes = true → byteAt bytes 15 ≠ 0x00 → byteAt bytes 15 ≠ 0x25 → byteAt bytes 15 ≠ 0x28 →
      ∃ c, decodeCbw bytes = .ok (.other (byteAt bytes 15) c))

/-- R91, R107: a record of any other length is no CBW, and is rejected by name. -/
def Obligations.OtherRecordLengthsAreRejected : Prop :=
  ∀ (cfg : Config) (bytes : List Byte), bytes.length ≠ 25 → bytes.length ≠ 31 →
    decode cfg (.cbw bytes) = .error (.cbwLength bytes.length)

/-! ### ARB: the arbitration cases (40_link_arbiter.md R122 to R127, R132) -/

/-- R122: whatever the host does, a chirping device decides the line state, K for a zero byte and J for
any other, reported as one of two events. -/
def Obligations.DeviceChirpDecidesTheLineState : Prop :=
  ∀ (s : State) (r : Bool) (h d : SideIn), h.opMode ≠ .reserved → d.opMode = .chirp → d.txValid = true →
    (d.txData = 0 → decodeArb r h d = .devChirpK h d) ∧
    (d.txData ≠ 0 → decodeArb r h d = .devChirpJ h d) ∧
    exec (.devChirpK h d) s = .next (arbAfter s h d .k .devChirpK) ∧
    exec (.devChirpJ h d) s = .next (arbAfter s h d .j .devChirpJ)

/-- R123: otherwise a chirping host does, by the same mapping, reported as one event. -/
def Obligations.HostChirpDecidesTheLineState : Prop :=
  ∀ (s : State) (r : Bool) (h d : SideIn), d.opMode ≠ .reserved → ¬ (d.opMode = .chirp ∧ d.txValid = true) →
    h.opMode = .chirp → h.txValid = true →
    decodeArb r h d = .hostChirp h d ∧
    exec (.hostChirp h d) s = .next (arbAfter s h d (if h.txData = 0 then .k else .j) .hostChirp)

/-- R124: otherwise a host driving the raw reset condition forces SE0. -/
def Obligations.HostResetForcesSe0 : Prop :=
  ∀ (s : State) (r : Bool) (h d : SideIn), d.opMode ≠ .reserved → ¬ (d.opMode = .chirp ∧ d.txValid = true) →
    h.opMode = .rawDrive → (r = true → h.txValid = true) →
    decodeArb r h d = .hostReset h d ∧
    exec (.hostReset h d) s = .next (arbAfter s h d .se0 .hostReset)

/-- R125: otherwise any transmission is a packet, under SE0. -/
def Obligations.PacketForcesSe0 : Prop :=
  ∀ (s : State) (r : Bool) (h d : SideIn), h.opMode ≠ .reserved → d.opMode ≠ .reserved →
    ¬ (d.opMode = .chirp ∧ d.txValid = true) → ¬ (h.opMode = .chirp ∧ h.txValid = true) →
    ¬ (h.opMode = .rawDrive ∧ (r = true → h.txValid = true)) → h.txValid = true ∨ d.txValid = true →
    decodeArb r h d = .packet h d ∧
    exec (.packet h d) s = .next (arbAfter s h d .se0 .packet)

/-- R126: otherwise the bus is idle, with line state J. -/
def Obligations.IdleBusShowsJ : Prop :=
  ∀ (s : State) (r : Bool) (h d : SideIn), h.opMode ≠ .reserved → d.opMode ≠ .reserved →
    ¬ (h.opMode = .rawDrive ∧ (r = true → h.txValid = true)) → h.txValid = false → d.txValid = false →
    decodeArb r h d = .idle h d ∧
    exec (.idle h d) s = .next (arbAfter s h d .j .idle)

/-- R132: a reserved op mode on either side refuses the step, before every case. That the step is refused
also in a cycle that asserts a reset, which R270 and R247(e) give precedence, is the model's reading
(assumption 11). -/
def Obligations.ReservedOpModeRefusesTheStep : Prop :=
  ∀ (s : State) (r : Bool) (h d : SideIn),
    exec (.reservedOpmode h d) s = .refused .reservedOpMode ∧
    (h.opMode = .reserved ∨ d.opMode = .reserved → decodeArb r h d = .reservedOpmode h d) ∧
    (configValid s.cfg = true → s.pins.h.opMode = .reserved ∨ (s.deviceIn s.pins).opMode = .reserved →
      step s = .refused .reservedOpMode)

/-- R127 with the codes of R100 and R102: in every completed cycle both sides' line state and the
reported case are the priority chain's; line state SE1 and cases 6 and 7 never occur (R131). -/
def Obligations.EveryCycleFollowsThePriorityChain : Prop :=
  ∀ s t : State, step s = .next t → ∃ r, t.arbLog = r :: s.arbLog ∧
    (r.hOut.lineState.code, r.arbCase.code) = arbitrationCodes s.cfg s.pins.h (s.deviceIn s.pins) ∧
    (r.dOut.lineState.code, r.arbCase.code) = arbitrationCodes s.cfg s.pins.h (s.deviceIn s.pins) ∧
    r.hOut.lineState ≠ .se1 ∧ r.arbCase.code.toNat < 6

/-- R128: both sides observe the same line state in every cycle. -/
def Obligations.BothSidesSeeOneLineState : Prop :=
  ∀ s t : State, step s = .next t → ∃ r, t.arbLog = r :: s.arbLog ∧
    r.hOut.lineState = r.dOut.lineState

/-! ### ARB: the byte relay (R140 to R148) -/

/-- R141 to R144: the relay's outputs in every completed cycle, in both directions, whatever the modes
and the arbitration case (R146). -/
def Obligations.RelayOutputsInEveryCycle : Prop :=
  ∀ s t : State, step s = .next t → ∃ r, t.arbLog = r :: s.arbLog ∧
    r.dOut.rxActive = s.pins.h.txValid ∧
    r.hOut.rxActive = (s.deviceIn s.pins).txValid ∧
    (r.hOut.txReady = true ↔ s.pins.h.txValid = true ∧ s.cntHd = s.cfg.pPreamble) ∧
    (r.dOut.txReady = true ↔ (s.deviceIn s.pins).txValid = true ∧ s.cntDh = s.cfg.pPreamble) ∧
    r.dOut.rxValid = r.hOut.txReady ∧ r.hOut.rxValid = r.dOut.txReady ∧
    r.dOut.rxData = s.pins.h.txData ∧ r.hOut.rxData = (s.deviceIn s.pins).txData

/-- R140, R271: both lead-time counters in every completed cycle. -/
def Obligations.LeadTimeCountersInEveryCycle : Prop :=
  ∀ s t : State, step s = .next t →
    (s.pins.arbRst = true → t.cntHd = 0 ∧ t.cntDh = 0) ∧
    (s.pins.arbRst = false →
      t.cntHd = (if s.pins.h.txValid = true then min (s.cntHd + 1) s.cfg.pPreamble else 0) ∧
      t.cntDh = (if (s.deviceIn s.pins).txValid = true then min (s.cntDh + 1) s.cfg.pPreamble else 0))

/-- The frame of ARB's six cases: no register of BOT changes, no byte of the CBW buffer, no trace event
is emitted; only the two counters and ARB's port log do (R122 to R126: "State written: none", R140). -/
def Obligations.ArbitrationCasesLeaveBotUnchanged : Prop :=
  ∀ (s t : State) (h d : SideIn) (i : Instr),
    i = .devChirpK h d ∨ i = .devChirpJ h d ∨ i = .hostChirp h d ∨ i = .hostReset h d ∨ i = .packet h d ∨
      i = .idle h d →
    exec i s = .next t →
    KeepsBot s t ∧ t.cfg = s.cfg ∧ t.trace = s.trace ∧ t.botLog = s.botLog ∧ t.script = s.script ∧
      t.draws = s.draws

/-- R147, host to device: of a streak of `n` cycles beginning with the counter at 0, the bytes of
cycles P_PREAMBLE..n-1 are each delivered once, in order, and no other byte. -/
def Obligations.HostStreakDelivery : Prop :=
  ∀ (s : State) (streak rest : List Pins),
    configValid s.cfg = true → s.cbw.length = s.cfg.cbwLen → s.cntHd = 0 → s.script = streak ++ rest →
    (∀ p ∈ streak, p.arbRst = false ∧ p.h.txValid = true ∧ p.h.contract = true ∧ p.d.contract = true) →
    ∃ t, runCycles streak.length s = .next t ∧
      deliveredToDevice (t.arbLog.take streak.length) =
        (streak.drop s.cfg.pPreamble).map (fun p => p.h.txData) ∧
      t.cntHd = min streak.length s.cfg.pPreamble

/-- R147, device to host, for blocks that stand alone. -/
def Obligations.DeviceStreakDelivery : Prop :=
  ∀ (s : State) (streak rest : List Pins),
    configValid s.cfg = true → s.cfg.wiring = .independent → s.cbw.length = s.cfg.cbwLen → s.cntDh = 0 →
    s.script = streak ++ rest →
    (∀ p ∈ streak, p.arbRst = false ∧ p.d.txValid = true ∧ p.h.contract = true ∧ p.d.contract = true) →
    ∃ t, runCycles streak.length s = .next t ∧
      deliveredToHost (t.arbLog.take streak.length) =
        (streak.drop s.cfg.pPreamble).map (fun p => p.d.txData) ∧
      t.cntDh = min streak.length s.cfg.pPreamble

/-! ### BOT: the endpoints and the receive path (41_bot_transport.md R161 to R164) -/

/-- R161, with R62 to R64: BOT's outputs in every completed cycle, and never both handshakes at once. -/
def Obligations.EndpointOutputsInEveryCycle : Prop :=
  ∀ s t : State, step s = .next t → ∃ r, t.botLog = r :: s.botLog ∧
    (r.out.rxReady = true ↔ s.st = .recvCbw) ∧
    (r.out.txValid = true ↔ s.st = .sendCapacity ∨ s.st = .sendData ∨ s.st = .sendCsw) ∧
    ¬ (r.out.rxReady = true ∧ r.out.txValid = true) ∧
    (s.st = .sendCapacity → r.out.txData = byteAt (capacityBytes s.cfg) s.txCur) ∧
    (s.st = .sendData → r.out.txData = BitVec.ofNat 8 s.txCur ^^^ byteAt s.cbw 20) ∧
    (s.st = .sendCsw →
      r.out.txData = byteAt (cswBytes s.cbw (if s.fail = true then 0x01 else 0x00)) s.txCur) ∧
    (r.out.txLast = true ↔
      s.st = .sendCapacity ∧ s.txCur = 7 ∨ s.st = .sendData ∧ s.txCur = s.cfg.blockSize - 1 ∨
        s.st = .sendCsw ∧ s.txCur = 12)

/-- R162: a byte other than the last is stored at the offset, which advances; nothing else of BOT changes. -/
def Obligations.ReceivedByteIsStored : Prop :=
  ∀ s : State, s.InContract → (s.botIn s.pins).rst = false → s.st = .recvCbw →
    (s.botIn s.pins).rxValid = true → s.rxOff ≠ s.cfg.cbwLen - 1 → s.rxOff < s.cbw.length →
    ∃ t, step s = .next t ∧ t.st = .recvCbw ∧ t.rxOff = s.rxOff + 1 ∧
      (∀ a, t.cbwByte a = if a = s.rxOff then (s.botIn s.pins).rxData else s.cbwByte a) ∧
      t.txCur = s.txCur ∧ t.ready = s.ready ∧ t.polls = s.polls ∧ t.fail = s.fail ∧ t.trace = s.trace

/-- R163: the final byte is stored, the offset and the cursor return to 0, and the CBW is processed next. -/
def Obligations.FinalByteStartsProcessing : Prop :=
  ∀ s : State, s.InContract → (s.botIn s.pins).rst = false → s.st = .recvCbw →
    (s.botIn s.pins).rxValid = true → s.rxOff = s.cfg.cbwLen - 1 → s.rxOff < s.cbw.length →
    ∃ t, step s = .next t ∧ t.st = .processCbw ∧ t.rxOff = 0 ∧ t.txCur = 0 ∧
      (∀ a, t.cbwByte a = if a = s.cfg.cbwLen - 1 then (s.botIn s.pins).rxData else s.cbwByte a) ∧
      t.ready = s.ready ∧ t.polls = s.polls ∧ t.fail = s.fail ∧ t.trace = s.trace

/-- R164: with no byte offered, no register of BOT changes. -/
def Obligations.NoByteNoChange : Prop :=
  ∀ s : State, s.InContract → (s.botIn s.pins).rst = false → s.st = .recvCbw →
    (s.botIn s.pins).rxValid = false →
    ∃ t, step s = .next t ∧ KeepsBot s t ∧ t.trace = s.trace

/-! ### BOT: the commands (R165 to R167, 42_scsi_commands.md) -/

/-- R165: a CBW with a bad signature writes `st` only, with no trace event. -/
def Obligations.BadSignatureIsDiscarded : Prop :=
  ∀ (s : State) (sig : Word32) (op : Byte) (c : CbwFields),
    exec (.badSignature sig op c) s = .next { s with st := .recvCbw }

/-- R201: TEST_UNIT_READY fails and counts while `polls` is below 2, and then sets the latch. -/
def Obligations.TestUnitReadyResult : Prop :=
  ∀ (s : State) (c : CbwFields),
    exec (.testUnitReady c) s = .next
      (if s.polls < 2 then
        { s with fail := true, polls := s.polls + 1, st := .sendCsw, trace := .opcode 0x00 :: s.trace }
      else { s with ready := true, st := .sendCsw, trace := .opcode 0x00 :: s.trace })

/-- R205: READ_CAPACITY(10). -/
def Obligations.ReadCapacityResult : Prop :=
  ∀ (s : State) (c : CbwFields),
    exec (.readCapacity10 c) s = .next
      (if s.ready = false then
        { s with fail := true, st := .sendCsw, trace := .opcode 0x25 :: s.trace }
      else { s with st := .sendCapacity, trace := .opcode 0x25 :: s.trace })

/-- R215: READ(10). -/
def Obligations.ReadTenResult : Prop :=
  ∀ (s : State) (c : CbwFields),
    exec (.read10 c) s = .next
      (if s.ready = false then
        { s with fail := true, st := .sendCsw, trace := .opcode 0x28 :: s.trace }
      else { s with st := .sendData, trace := .opcode 0x28 :: s.trace })

/-- R220: any other opcode is acknowledged with whatever the fail flag holds. -/
def Obligations.OtherOpcodeIsAcknowledged : Prop :=
  ∀ (s : State) (op : Byte) (c : CbwFields),
    exec (.other op c) s = .next { s with st := .sendCsw, trace := .opcode op :: s.trace }

/-- R165, R166, R201, R205, R215, R220, as R178 writes them: what the PROCESS_CBW cycle does, from the bytes
of the buffer. A bad signature changes `st` only; a valid CBW's opcode is traced and then runs its rule; the
offset, the cursor and the buffer are as before. -/
def Obligations.ProcessCbwFollowsThePseudocode : Prop :=
  ∀ s : State, s.InContract → s.cbw.length = s.cfg.cbwLen → s.st = .processCbw →
    (s.botIn s.pins).rst = false →
    ∃ t, step s = .next t ∧ t.rxOff = s.rxOff ∧ t.txCur = s.txCur ∧ (∀ a, t.cbwByte a = s.cbwByte a) ∧
      (signed s.cbw = false →
        t.st = .recvCbw ∧ t.ready = s.ready ∧ t.polls = s.polls ∧ t.fail = s.fail ∧ t.trace = s.trace) ∧
      (signed s.cbw = true →
        t.trace = .opcode (byteAt s.cbw 15) :: s.trace ∧
        (byteAt s.cbw 15 = 0x00 → s.polls < 2 →
          t.st = .sendCsw ∧ t.fail = true ∧ t.polls = s.polls + 1 ∧ t.ready = s.ready) ∧
        (byteAt s.cbw 15 = 0x00 → ¬ s.polls < 2 →
          t.st = .sendCsw ∧ t.fail = s.fail ∧ t.polls = s.polls ∧ t.ready = true) ∧
        (byteAt s.cbw 15 = 0x25 ∨ byteAt s.cbw 15 = 0x28 → s.ready = false →
          t.st = .sendCsw ∧ t.fail = true ∧ t.polls = s.polls ∧ t.ready = s.ready) ∧
        (byteAt s.cbw 15 = 0x25 → s.ready = true →
          t.st = .sendCapacity ∧ t.fail = s.fail ∧ t.polls = s.polls ∧ t.ready = s.ready) ∧
        (byteAt s.cbw 15 = 0x28 → s.ready = true →
          t.st = .sendData ∧ t.fail = s.fail ∧ t.polls = s.polls ∧ t.ready = s.ready) ∧
        (byteAt s.cbw 15 ≠ 0x00 → byteAt s.cbw 15 ≠ 0x25 → byteAt s.cbw 15 ≠ 0x28 →
          t.st = .sendCsw ∧ t.fail = s.fail ∧ t.polls = s.polls ∧ t.ready = s.ready))

/-- The frame of the five commands: the buffer, the offset, the cursor and ARB's counters are as before;
`ready` and `polls` are written by TEST_UNIT_READY alone (R33, R34), `fail` only by the three commands
that can fail (R35). -/
def Obligations.CommandsFrame : Prop :=
  ∀ (s t : State) (sig : Word32) (op : Byte) (c : CbwFields) (i : Instr),
    i = .badSignature sig op c ∨ i = .testUnitReady c ∨ i = .readCapacity10 c ∨ i = .read10 c ∨
      i = .other op c →
    exec i s = .next t →
    (∀ a, t.cbwByte a = s.cbwByte a) ∧ t.rxOff = s.rxOff ∧ t.txCur = s.txCur ∧ t.cntHd = s.cntHd ∧
    t.cntDh = s.cntDh ∧ t.cfg = s.cfg ∧ t.arbLog = s.arbLog ∧ t.botLog = s.botLog ∧
    t.script = s.script ∧ t.draws = s.draws ∧
    (i ≠ .testUnitReady c → t.ready = s.ready ∧ t.polls = s.polls) ∧
    (i = .badSignature sig op c ∨ i = .other op c → t.fail = s.fail)

/-- The step around `exec`: a cycle within the configuration's ranges runs the case its arbitration inputs
decode to and then, when BOT is in PROCESS_CBW and not reset, the command its buffer decodes to; what the
step adds is ARB's reset, the record of BOT's ports and the end of the cycle. -/
def Obligations.StepRunsTheDecodedInstructions : Prop :=
  ∀ (s u v : State) (i : Instr), configValid s.cfg = true → s.st = .processCbw →
    (s.botIn s.pins).rst = false → decodeCbw s.cbw = .ok i →
    exec (decodeArb s.cfg.resetRequiresTxValid s.pins.h (s.deviceIn s.pins)) s = .next u →
    exec i ((if s.pins.arbRst = true then { u with cntHd := 0, cntDh := 0 } else u).logBot
      ⟨s.botIn s.pins, s.botOut⟩) = .next v →
    step s = .next { v with script := s.script.tail, draws := s.draws + 1 }

/-- R167: PROCESS_CBW lasts exactly one cycle, and no handshake occurs in it. -/
def Obligations.ProcessCbwLastsOneCycle : Prop :=
  ∀ s t : State, s.st = .processCbw → step s = .next t →
    t.st ≠ .processCbw ∧ t.rxOff = (if (s.botIn s.pins).rst = true then 0 else s.rxOff) ∧
    ∃ r, t.botLog = r :: s.botLog ∧ r.out.rxReady = false ∧ r.out.txValid = false

/-- R224: of the commands with a valid signature, exactly the scripted and the not-ready ones leave the
fail flag set for their CSW. -/
def Obligations.FailedStatusLaw : Prop :=
  ∀ s : State, s.InContract → s.Inv → s.st = .processCbw → (s.botIn s.pins).rst = false →
    signed s.cbw = true →
    ∃ t, step s = .next t ∧
      (t.fail = true ↔ byteAt s.cbw 15 = 0x00 ∧ s.polls < 2 ∨
        (byteAt s.cbw 15 = 0x25 ∨ byteAt s.cbw 15 = 0x28) ∧ s.ready = false)

/-! ### BOT: the emitters (R168 to R172) -/

/-- R168: the capacity record's byte at the cursor is offered and taken; the cursor walks to byte 7, whose
handshake ends the record. -/
def Obligations.CapacityRecordHandshake : Prop :=
  ∀ s : State, s.InContract → (s.botIn s.pins).rst = false → s.st = .sendCapacity →
    (s.botIn s.pins).txReady = true →
    ∃ t, step s = .next t ∧ KeepsCommand s t ∧ t.fail = s.fail ∧ t.trace = s.trace ∧
      t.botLog = ⟨s.botIn s.pins, ⟨false, true, byteAt (capacityBytes s.cfg) s.txCur, decide (s.txCur = 7)⟩⟩ ::
        s.botLog ∧
      (s.txCur = 7 → t.txCur = 0 ∧ t.st = .sendCsw) ∧
      (s.txCur ≠ 7 → t.txCur = s.txCur + 1 ∧ t.st = .sendCapacity)

/-- R169: the data block's byte at the cursor is offered and taken; the cursor walks to byte BLOCK_SIZE - 1,
whose handshake ends the record. -/
def Obligations.DataRecordHandshake : Prop :=
  ∀ s : State, s.InContract → (s.botIn s.pins).rst = false → s.st = .sendData →
    (s.botIn s.pins).txReady = true →
    ∃ t, step s = .next t ∧ KeepsCommand s t ∧ t.fail = s.fail ∧ t.trace = s.trace ∧
      t.botLog = ⟨s.botIn s.pins, ⟨false, true, BitVec.ofNat 8 s.txCur ^^^ byteAt s.cbw 20,
        decide (s.txCur = s.cfg.blockSize - 1)⟩⟩ :: s.botLog ∧
      (s.txCur = s.cfg.blockSize - 1 → t.txCur = 0 ∧ t.st = .sendCsw) ∧
      (s.txCur ≠ s.cfg.blockSize - 1 → t.txCur = s.txCur + 1 ∧ t.st = .sendData)

/-- R170: a CSW byte other than the last is offered and taken, and advances the cursor only. -/
def Obligations.CswByteHandshake : Prop :=
  ∀ s : State, s.InContract → (s.botIn s.pins).rst = false → s.st = .sendCsw →
    (s.botIn s.pins).txReady = true → s.txCur ≠ 12 →
    ∃ t, step s = .next t ∧ KeepsCommand s t ∧ t.fail = s.fail ∧ t.trace = s.trace ∧
      t.botLog = ⟨s.botIn s.pins,
        ⟨false, true, byteAt (cswBytes s.cbw (if s.fail = true then 0x01 else 0x00)) s.txCur, false⟩⟩ ::
        s.botLog ∧
      t.txCur = s.txCur + 1 ∧ t.st = .sendCsw

/-- R171: the final CSW byte is the status; its handshake traces the status, clears the fail flag and returns
to RECV_CBW. -/
def Obligations.FinalCswByteHandshake : Prop :=
  ∀ s : State, s.InContract → (s.botIn s.pins).rst = false → s.st = .sendCsw →
    (s.botIn s.pins).txReady = true → s.txCur = 12 →
    ∃ t, step s = .next t ∧ KeepsCommand s t ∧ t.txCur = 0 ∧ t.fail = false ∧ t.st = .recvCbw ∧
      t.botLog = ⟨s.botIn s.pins, ⟨false, true, if s.fail = true then 0x01 else 0x00, true⟩⟩ :: s.botLog ∧
      t.trace = .cswStatus (if s.fail = true then .failed else .passed) :: s.trace

/-- R172: a byte that is not accepted changes no register of BOT, and is offered again. -/
def Obligations.TransmitStallChangesNothing : Prop :=
  ∀ s : State, s.InContract → (s.botIn s.pins).rst = false →
    s.st = .sendCapacity ∨ s.st = .sendData ∨ s.st = .sendCsw → (s.botIn s.pins).txReady = false →
    ∃ t, step s = .next t ∧ KeepsBot s t ∧ t.trace = s.trace ∧ t.botOut = s.botOut

/-! ### Whole-machine rules -/

/-- R160: the transitions of the state graph are exactly the table's; a reset leads to RECV_CBW (R272). -/
def Obligations.StateGraph : Prop :=
  ∀ s t : State, s.InContract → step s = .next t → (s.botIn s.pins).rst = false →
    (s.st = .recvCbw →
      (t.st = .processCbw ↔ (s.botIn s.pins).rxValid = true ∧ s.rxOff = s.cfg.cbwLen - 1) ∧
      (t.st ≠ .processCbw → t.st = .recvCbw)) ∧
    (s.st = .processCbw → (t.st = .recvCbw ↔ signed s.cbw = false) ∧ t.st ≠ .processCbw) ∧
    (s.st = .sendCapacity →
      (t.st = .sendCsw ↔ (s.botIn s.pins).txReady = true ∧ s.txCur = 7) ∧
      (t.st ≠ .sendCsw → t.st = .sendCapacity)) ∧
    (s.st = .sendData →
      (t.st = .sendCsw ↔ (s.botIn s.pins).txReady = true ∧ s.txCur = s.cfg.blockSize - 1) ∧
      (t.st ≠ .sendCsw → t.st = .sendData)) ∧
    (s.st = .sendCsw →
      (t.st = .recvCbw ↔ (s.botIn s.pins).txReady = true ∧ s.txCur = 12) ∧
      (t.st ≠ .recvCbw → t.st = .sendCsw))

/-- 20_memory.md R80: no byte arriving while a command is processed or answered can change it. -/
def Obligations.CommandIsHeldUntilAnswered : Prop :=
  ∀ s t : State, step s = .next t → s.st ≠ .recvCbw → (s.botIn s.pins).rst = false →
    (∀ a, t.cbwByte a = s.cbwByte a) ∧ t.rxOff = s.rxOff

/-- R223: outside a reset the ready latch never clears and the poll counter never falls. -/
def Obligations.ReadinessIsMonotone : Prop :=
  ∀ s t : State, step s = .next t → (s.botIn s.pins).rst = false →
    (s.ready = true → t.ready = true) ∧ s.polls ≤ t.polls

/-- 10_state.md R41: every step keeps the invariants I-a to I-g and the ranges of R31 and R36. -/
def Obligations.StepKeepsTheInvariants : Prop :=
  ∀ s t : State, s.Inv → step s = .next t → t.Inv

/-- R41, R42: the invariants hold of the machine as constructed, with every configuration in range. -/
def Obligations.ConstructedMachineHasTheInvariants : Prop :=
  ∀ cfg : Config, configValid cfg = true → (State.construct cfg).Inv

/-- R8, R275: the configuration never changes. -/
def Obligations.ConfigurationNeverChanges : Prop :=
  ∀ s t : State, step s = .next t → t.cfg = s.cfg

/-- 60_exceptions.md R240: within the interface contract every input gives a defined next state, from
every state with the invariants; no step faults, and only a step outside the contract is refused. -/
def Obligations.EveryContractCycleCompletes : Prop :=
  ∀ s : State, s.Inv →
    (s.InContract → ∃ t, step s = .next t) ∧ (∀ r, step s ≠ .fault r) ∧
      ∀ r, step s = .refused r → ¬ s.InContract

/-- R249: the only refusals, from a state with the invariants, are R_CONFIG and R_OPMODE, each under its
own condition. -/
def Obligations.RefusalsAreConfigurationAndOpMode : Prop :=
  ∀ (s : State) (r : Refusal), s.Inv → step s = .refused r →
    (r = .badConfig ∧ configValid s.cfg = false) ∨
    (r = .reservedOpMode ∧ (s.pins.h.opMode = .reserved ∨ (s.deviceIn s.pins).opMode = .reserved))

/-- R8, R212, R249: a configuration outside the ranges is refused. R275 checks it once, before the first
step; that the model checks and refuses at every step is its own choice (assumption 1). -/
def Obligations.ConfigurationsOutOfRangeAreRefused : Prop :=
  ∀ s : State,
    s.cfg.blockCount = 0 ∨ 2 ^ 32 < s.cfg.blockCount ∨ s.cfg.blockSize = 0 ∨ 2 ^ 32 ≤ s.cfg.blockSize ∨
      (s.cfg.cbwLen ≠ 25 ∧ s.cfg.cbwLen ≠ 31) →
    step s = .refused .badConfig

/-- R270 to R272: at an edge with a block's `rst`, its registers take their reset values whatever the
other inputs and whatever they held. Two clauses are the model's own: the buffer keeps its length, with
unspecified bytes (assumption 5), and no event is traced at the edge (assumption 13). -/
def Obligations.ResetEdgeSetsTheRegisters : Prop :=
  ∀ s : State, s.InContract → s.Inv →
    ∃ t, step s = .next t ∧
      (s.pins.arbRst = true → t.cntHd = 0 ∧ t.cntDh = 0) ∧
      (s.pins.botRst = true → t.st = .recvCbw ∧ t.rxOff = 0 ∧ t.txCur = 0 ∧ t.ready = false ∧ t.polls = 0 ∧
        t.fail = false ∧ t.cbw.length = s.cfg.cbwLen ∧ t.trace = s.trace)

/-- R42: the reset values of every register the spec gives one for. -/
def Obligations.ResetValues : Prop :=
  State.reset.cntHd = 0 ∧ State.reset.cntDh = 0 ∧ State.reset.st = .recvCbw ∧ State.reset.rxOff = 0 ∧
  State.reset.txCur = 0 ∧ State.reset.ready = false ∧ State.reset.polls = 0 ∧ State.reset.fail = false

/-- R274 ("the emulator does not know about bus arbitration"): with the bus reset not
tied to BOT and the blocks standing alone, BOT's next registers do not depend on what either side drives. -/
def Obligations.BotDoesNotSeeTheBus : Prop :=
  ∀ (s t t' : State) (p p' : Pins), s.cfg.wiring = .independent → s.cfg.busResetResetsBot = false →
    p'.botRst = p.botRst → p'.rxValid = p.rxValid → p'.rxData = p.rxData → p'.txReady = p.txReady →
    cycle p s = .next t → cycle p' s = .next t' →
    t'.st = t.st ∧ t'.rxOff = t.rxOff ∧ t'.txCur = t.txCur ∧ t'.ready = t.ready ∧ t'.polls = t.polls ∧
      t'.fail = t.fail ∧ t'.cbw = t.cbw ∧ t'.trace = t.trace

/-- The model's choice of assumption 10 for BUS_RESET_RESETS_BOT = true (R274, U8): a HOST_RESET cycle
resets BOT at its edge. -/
def Obligations.TiedBusResetResetsBot : Prop :=
  ∀ s : State, s.InContract → s.cfg.busResetResetsBot = true →
    decodeArb s.cfg.resetRequiresTxValid s.pins.h (s.deviceIn s.pins) =
      .hostReset s.pins.h (s.deviceIn s.pins) →
    ∃ t, step s = .next t ∧ t.st = .recvCbw ∧ t.rxOff = 0 ∧ t.txCur = 0 ∧ t.ready = false ∧ t.polls = 0 ∧
      t.fail = false

/-- R29, R129: the trace and the port logs have no feedback: with other contents of the three lists, the
step gives the same state but for those lists. -/
def Obligations.ObservationsHaveNoFeedback : Prop :=
  ∀ (s t : State) (trace : List TraceEvent) (arbLog : List ArbRecord) (botLog : List BotRecord),
    step s = .next t →
    ∃ trace' arbLog' botLog',
      step { s with trace := trace, arbLog := arbLog, botLog := botLog } =
        .next { t with trace := trace', arbLog := arbLog', botLog := botLog' }

/-! ### Records -/

/-- R62, R67, R97, R212: the capacity record's two big-endian fields are BLOCK_COUNT - 1 and BLOCK_SIZE. -/
def Obligations.CapacityRecordValues : Prop :=
  ∀ cfg : Config, configValid cfg = true →
    (capRecord cfg).length = 8 ∧
    (be32 (byteAt (capRecord cfg) 0) (byteAt (capRecord cfg) 1) (byteAt (capRecord cfg) 2)
      (byteAt (capRecord cfg) 3)).toNat = cfg.blockCount - 1 ∧
    (be32 (byteAt (capRecord cfg) 4) (byteAt (capRecord cfg) 5) (byteAt (capRecord cfg) 6)
      (byteAt (capRecord cfg) 7)).toNat = cfg.blockSize

/-- R64, R94 to R96, R177: the CSW record, byte by byte. -/
def Obligations.CswRecordContents : Prop :=
  ∀ s : State, s.cswRecord =
    [0x55, 0x53, 0x42, 0x53, byteAt s.cbw 4, byteAt s.cbw 5, byteAt s.cbw 6, byteAt s.cbw 7,
      0x00, 0x00, 0x00, 0x00, if s.fail = true then 0x01 else 0x00]

/-! ### Runs -/

/-- R162, R163 over a whole record: CBW_LEN bytes offered on consecutive cycles fill the buffer in order
and start PROCESS_CBW. -/
def Obligations.WholeCbwIsReceived : Prop :=
  ∀ (s : State) (bytes : List Byte) (ps rest : List Pins), BotAlone s.cfg → AwaitsCbw s →
    s.cbw.length = s.cfg.cbwLen → bytes.length = s.cfg.cbwLen → Feeds bytes ps → (∀ p ∈ ps, Calm p) →
    s.script = ps ++ rest →
    ∃ t, runCycles s.cfg.cbwLen s = .next t ∧ t.cbw = bytes ∧ t.st = .processCbw ∧
      t.rxOff = 0 ∧ t.ready = s.ready ∧ t.polls = s.polls ∧ t.fail = false ∧
      t.script = rest

/-- R217 over a whole data phase: with every byte taken at once, exactly BLOCK_SIZE bytes are sent, byte
`i` being `i[7:0] ^ lba_lo`, and the CSW follows. -/
def Obligations.DataBlockIsTheXorPattern : Prop :=
  ∀ (s : State) (ps rest : List Pins), BotAlone s.cfg → s.st = .sendData → s.txCur = 0 →
    ps.length = s.cfg.blockSize → Accepts ps → (∀ p ∈ ps, Calm p) → s.script = ps ++ rest →
    ∃ t, runCycles s.cfg.blockSize s = .next t ∧
      sentBytes (t.botLog.take s.cfg.blockSize) =
        (List.range s.cfg.blockSize).map (fun i => BitVec.ofNat 8 i ^^^ byteAt s.cbw 20) ∧
      t.st = .sendCsw ∧ t.txCur = 0 ∧ t.cbw = s.cbw ∧ t.fail = s.fail

/-- R75, R76, R176, R177, R179, R224, R290 for every CBW of every content: when the CBW arrives on
consecutive cycles and every answer byte is taken at once, BOT sends exactly the answer's bytes and awaits
the next CBW after CBW_LEN + 1 + R cycles, with the poll counter and the latch as the rules say. -/
def Obligations.EveryCommandIsAnsweredInFull : Prop :=
  ∀ (s : State) (cbw : List Byte) (ps rest : List Pins), BotAlone s.cfg → s.Inv → AwaitsCbw s →
    IsTransaction s.cfg cbw (response s.cfg s.ready s.polls cbw).length ps → s.script = ps ++ rest →
    ∃ t, runCycles ps.length s = .next t ∧
      ps.length = s.cfg.cbwLen + 1 + (response s.cfg s.ready s.polls cbw).length ∧
      sentBytes (t.botLog.take ps.length) = response s.cfg s.ready s.polls cbw ∧
      AwaitsCbw t ∧ t.cbw = cbw ∧ t.script = rest ∧
      t.polls = (if signed cbw = true ∧ byteAt cbw 15 = 0x00 ∧ s.polls < 2 then s.polls + 1 else s.polls) ∧
      t.ready = (if signed cbw = true ∧ byteAt cbw 15 = 0x00 ∧ ¬ s.polls < 2 then true else s.ready)

/-- R203: in a fresh session, the CSW status of TEST_UNIT_READY number n is FAILED for n ≤ 2 and PASSED from
n = 3 on, and the ready latch is set by the third. -/
def Obligations.TestUnitReadySequence : Prop :=
  ∀ (s : State) (cmds : List (List Byte × List Pins)) (rest : List Pins),
    BotAlone s.cfg → s.Inv → AwaitsCbw s → s.polls = 0 → s.ready = false → s.trace = [] →
    (∀ c ∈ cmds, signed c.1 = true ∧ byteAt c.1 15 = 0x00 ∧ IsTransaction s.cfg c.1 13 c.2) →
    s.script = cmds.flatMap Prod.snd ++ rest →
    ∃ t, runCycles (cmds.flatMap Prod.snd).length s = .next t ∧
      t.trace = turTrace cmds.length ∧ t.polls = min cmds.length 2 ∧
      t.ready = decide (3 ≤ cmds.length) ∧ AwaitsCbw t

/-! ### The direct composition (70_reset_and_hazards.md R285, R286) -/

/-- R285: in every completed cycle of the direct composition BOT's endpoints carry ARB's device port and
ARB's device side carries BOT's transmit endpoint in NORMAL mode. -/
def Obligations.DirectCompositionWiring : Prop :=
  ∀ s t : State, s.cfg.wiring = .direct → step s = .next t → ∃ a b,
    t.arbLog = a :: s.arbLog ∧ t.botLog = b :: s.botLog ∧
    b.inp.rxValid = a.dOut.rxValid ∧ b.inp.rxData = a.dOut.rxData ∧ b.inp.txReady = a.dOut.txReady ∧
    a.dIn = ⟨.normal, b.out.txValid, b.out.txData⟩

/-- R286: a host byte that ARB accepts while BOT is not in RECV_CBW is lost, and one accepted while BOT is
in RECV_CBW is stored. -/
def Obligations.EarlyBytesAreLostInTheComposition : Prop :=
  ∀ s : State, s.InContract → s.Inv → s.cfg.wiring = .direct → (s.botIn s.pins).rst = false →
    s.pins.h.txValid = true → s.cntHd = s.cfg.pPreamble →
    ∃ t a, step s = .next t ∧ t.arbLog = a :: s.arbLog ∧ a.hOut.txReady = true ∧ a.dOut.rxValid = true ∧
      (s.st ≠ .recvCbw → (∀ i, t.cbwByte i = s.cbwByte i) ∧ t.rxOff = s.rxOff) ∧
      (s.st = .recvCbw → t.cbwByte s.rxOff = s.pins.h.txData)
end

