-- ==== Sys2Proof/Laws/Bytes.lean ====
section
/-!
SUPPORT. The byte-order helpers of 00_scope.md R12 and the port words are inverse to one another.
-/

namespace Sys2Proof

/-! ### Bit `i` of an assembled value -/

theorem getLsbD_le32 (b0 b1 b2 b3 : Byte) (i : Nat) :
    (le32 b0 b1 b2 b3).getLsbD i =
      if i < 8 then b0.getLsbD i else if i < 16 then b1.getLsbD (i - 8)
      else if i < 24 then b2.getLsbD (i - 16) else b3.getLsbD (i - 24) := by
  unfold le32
  rw [BitVec.getLsbD_append, BitVec.getLsbD_append, BitVec.getLsbD_append]
  split_ifs <;> first | rfl | omega

theorem getLsbD_be16 (b0 b1 : Byte) (i : Nat) :
    (be16 b0 b1).getLsbD i = if i < 8 then b1.getLsbD i else b0.getLsbD (i - 8) := by
  unfold be16
  rw [BitVec.getLsbD_append]

/-- Big-endian assembly is little-endian assembly of the bytes in the opposite order. -/
theorem be32_eq_le32 (b0 b1 b2 b3 : Byte) : be32 b0 b1 b2 b3 = le32 b3 b2 b1 b0 := rfl

/-! ### Values to bytes and back -/

@[simp] theorem le32_of_bytes (v : Word32) :
    le32 (v.extractLsb' 0 8) (v.extractLsb' 8 8) (v.extractLsb' 16 8) (v.extractLsb' 24 8) = v := by
  apply BitVec.eq_of_getLsbD_eq
  intro i hi
  simp only [getLsbD_le32, BitVec.getLsbD_extractLsb']
  split_ifs <;> rw [decide_eq_true (by omega), Bool.true_and] <;> congr 1 <;> omega

@[simp] theorem be32_of_bytes (v : Word32) :
    be32 (v.extractLsb' 24 8) (v.extractLsb' 16 8) (v.extractLsb' 8 8) (v.extractLsb' 0 8) = v := by
  rw [be32_eq_le32, le32_of_bytes]

@[simp] theorem be16_of_bytes (v : Half) : be16 (v.extractLsb' 8 8) (v.extractLsb' 0 8) = v := by
  apply BitVec.eq_of_getLsbD_eq
  intro i hi
  simp only [getLsbD_be16, BitVec.getLsbD_extractLsb']
  split_ifs <;> rw [decide_eq_true (by omega), Bool.true_and] <;> congr 1 <;> omega

/-! ### Bytes to values and back -/

@[simp] theorem bytesLe32_le32 (b0 b1 b2 b3 : Byte) : bytesLe32 (le32 b0 b1 b2 b3) = [b0, b1, b2, b3] := by
  have field (k : Nat) (b : Byte) (h : ∀ i, i < 8 → (le32 b0 b1 b2 b3).getLsbD (k + i) = b.getLsbD i) :
      (le32 b0 b1 b2 b3).extractLsb' k 8 = b := by
    apply BitVec.eq_of_getLsbD_eq
    intro i hi
    rw [BitVec.getLsbD_extractLsb', decide_eq_true hi, Bool.true_and, h i hi]
  have h0 := field 0 b0 (fun i hi => by
    rw [getLsbD_le32, if_pos (by omega)]; congr 1; omega)
  have h1 := field 8 b1 (fun i hi => by
    rw [getLsbD_le32, if_neg (by omega), if_pos (by omega)]; congr 1; omega)
  have h2 := field 16 b2 (fun i hi => by
    rw [getLsbD_le32, if_neg (by omega), if_neg (by omega), if_pos (by omega)]; congr 1; omega)
  have h3 := field 24 b3 (fun i hi => by
    rw [getLsbD_le32, if_neg (by omega), if_neg (by omega), if_neg (by omega)]; congr 1; omega)
  simp only [bytesLe32, h0, h1, h2, h3]

@[simp] theorem bytesBe32_be32 (b0 b1 b2 b3 : Byte) : bytesBe32 (be32 b0 b1 b2 b3) = [b0, b1, b2, b3] := by
  have h : bytesBe32 (le32 b3 b2 b1 b0) = (bytesLe32 (le32 b3 b2 b1 b0)).reverse := rfl
  rw [be32_eq_le32, h, bytesLe32_le32]
  rfl

@[simp] theorem bytesBe16_be16 (b0 b1 : Byte) : bytesBe16 (be16 b0 b1) = [b0, b1] := by
  have h0 : (be16 b0 b1).extractLsb' 8 8 = b0 := by
    apply BitVec.eq_of_getLsbD_eq
    intro i hi
    rw [BitVec.getLsbD_extractLsb', decide_eq_true hi, Bool.true_and, getLsbD_be16, if_neg (by omega)]
    congr 1; omega
  have h1 : (be16 b0 b1).extractLsb' 0 8 = b1 := by
    apply BitVec.eq_of_getLsbD_eq
    intro i hi
    rw [BitVec.getLsbD_extractLsb', decide_eq_true hi, Bool.true_and, getLsbD_be16, if_pos (by omega)]
    congr 1; omega
  simp only [bytesBe16, h0, h1]

/-- R92: equality of assembled values is equality byte for byte. -/
theorem le32_inj {a0 a1 a2 a3 b0 b1 b2 b3 : Byte} :
    le32 a0 a1 a2 a3 = le32 b0 b1 b2 b3 ↔ a0 = b0 ∧ a1 = b1 ∧ a2 = b2 ∧ a3 = b3 := by
  constructor
  · intro h
    have := congrArg bytesLe32 h
    simpa using this
  · rintro ⟨rfl, rfl, rfl, rfl⟩
    rfl

/-! ### Arbitration words (30_encoding.md R101) -/

@[simp] theorem ofCode_code (m : OpMode) : OpMode.ofCode m.code = m := by cases m <;> decide

@[simp] theorem code_ofCode (b : BitVec 2) : (OpMode.ofCode b).code = b := by
  revert b; decide

theorem getLsbD_toBits (x : SideIn) (i : Nat) :
    x.toBits.getLsbD i =
      if i < 2 then x.opMode.code.getLsbD i else if i < 3 then x.txValid else x.txData.getLsbD (i - 3) := by
  unfold SideIn.toBits
  rw [BitVec.getLsbD_append, BitVec.getLsbD_append]
  split_ifs
  · rfl
  · rw [show i - 2 = 0 by omega]; cases x.txValid <;> rfl
  · omega
  · omega
  · congr 1

@[simp] theorem ofBits_toBits (x : SideIn) : SideIn.ofBits x.toBits = x := by
  have h0 : x.toBits.extractLsb' 0 2 = x.opMode.code := by
    apply BitVec.eq_of_getLsbD_eq
    intro i hi
    rw [BitVec.getLsbD_extractLsb', decide_eq_true hi, Bool.true_and, getLsbD_toBits, if_pos (by omega)]
    congr 1; omega
  have h1 : x.toBits.getLsbD 2 = x.txValid := by rw [getLsbD_toBits]; rfl
  have h2 : x.toBits.extractLsb' 3 8 = x.txData := by
    apply BitVec.eq_of_getLsbD_eq
    intro i hi
    rw [BitVec.getLsbD_extractLsb', decide_eq_true hi, Bool.true_and, getLsbD_toBits, if_neg (by omega),
      if_neg (by omega)]
    congr 1; omega
  simp only [SideIn.ofBits, h0, h1, h2, ofCode_code]

@[simp] theorem toBits_ofBits (b : BitVec 11) : (SideIn.ofBits b).toBits = b := by
  apply BitVec.eq_of_getLsbD_eq
  intro i hi
  rw [getLsbD_toBits]
  simp only [SideIn.ofBits, code_ofCode, BitVec.getLsbD_extractLsb']
  split_ifs
  · simp_all
  · congr 1; omega
  · rw [decide_eq_true (by omega), Bool.true_and]; congr 1; omega

theorem getLsbD_encodeArb (h d : SideIn) (i : Nat) :
    (encodeArb h d).getLsbD i = if i < 11 then d.toBits.getLsbD i else h.toBits.getLsbD (i - 11) := by
  unfold encodeArb
  rw [BitVec.getLsbD_append]

@[simp] theorem deviceSide_encodeArb (h d : SideIn) : deviceSide (encodeArb h d) = d := by
  have hb : (encodeArb h d).extractLsb' 0 11 = d.toBits := by
    apply BitVec.eq_of_getLsbD_eq
    intro i hi
    rw [BitVec.getLsbD_extractLsb', decide_eq_true hi, Bool.true_and, getLsbD_encodeArb, if_pos (by omega)]
    congr 1; omega
  rw [deviceSide, hb, ofBits_toBits]

@[simp] theorem hostSide_encodeArb (h d : SideIn) : hostSide (encodeArb h d) = h := by
  have hb : (encodeArb h d).extractLsb' 11 11 = h.toBits := by
    apply BitVec.eq_of_getLsbD_eq
    intro i hi
    rw [BitVec.getLsbD_extractLsb', decide_eq_true hi, Bool.true_and, getLsbD_encodeArb, if_neg (by omega)]
    congr 1; omega
  rw [hostSide, hb, ofBits_toBits]

@[simp] theorem encodeArb_sides (w : BitVec 22) : encodeArb (hostSide w) (deviceSide w) = w := by
  apply BitVec.eq_of_getLsbD_eq
  intro i hi
  rw [getLsbD_encodeArb, hostSide, deviceSide, toBits_ofBits, toBits_ofBits,
    BitVec.getLsbD_extractLsb', BitVec.getLsbD_extractLsb']
  split_ifs
  · simp_all
  · rw [decide_eq_true (by omega), Bool.true_and]; congr 1; omega

end Sys2Proof
end

