-- ==== Sys2Proof/Laws/Decode.lean ====
section
/-!
SUPPORT. One lemma per part of the CBW format: what the decoder's getters read from an encoded
record, and what the encoder writes from a record's getters (30_encoding.md R91, R93).
-/

namespace Sys2Proof

/-- The encoded record, byte by byte. -/
theorem encodeCbw_eq (signature : Word32) (opcode : Byte) (c : CbwFields) :
    encodeCbw signature opcode c =
      signature.extractLsb' 0 8 :: signature.extractLsb' 8 8 :: signature.extractLsb' 16 8
        :: signature.extractLsb' 24 8 :: c.tag.extractLsb' 0 8 :: c.tag.extractLsb' 8 8
        :: c.tag.extractLsb' 16 8 :: c.tag.extractLsb' 24 8 :: c.dataTransferLength.extractLsb' 0 8
        :: c.dataTransferLength.extractLsb' 8 8 :: c.dataTransferLength.extractLsb' 16 8
        :: c.dataTransferLength.extractLsb' 24 8 :: c.flags :: c.lun :: c.cbLength :: opcode :: c.cdb.flags
        :: c.cdb.lba.extractLsb' 24 8 :: c.cdb.lba.extractLsb' 16 8 :: c.cdb.lba.extractLsb' 8 8
        :: c.cdb.lba.extractLsb' 0 8 :: c.cdb.group :: c.cdb.transferLength.extractLsb' 8 8
        :: c.cdb.transferLength.extractLsb' 0 8 :: c.cdb.control :: c.pad := by
  simp [encodeCbw, bytesLe32, bytesBe32, bytesBe16]

@[simp] theorem length_encodeCbw (signature : Word32) (opcode : Byte) (c : CbwFields) :
    (encodeCbw signature opcode c).length = c.pad.length + 25 := by
  simp [encodeCbw_eq]

@[simp] theorem recordSignature_encodeCbw (signature : Word32) (opcode : Byte) (c : CbwFields) :
    recordSignature (encodeCbw signature opcode c) = signature := by
  simp [recordSignature, byteAt, encodeCbw_eq]

@[simp] theorem recordOpcode_encodeCbw (signature : Word32) (opcode : Byte) (c : CbwFields) :
    recordOpcode (encodeCbw signature opcode c) = opcode := by
  simp [recordOpcode, byteAt, cdbOff, encodeCbw_eq]

@[simp] theorem recordFields_encodeCbw (signature : Word32) (opcode : Byte) (c : CbwFields) :
    recordFields (encodeCbw signature opcode c) = c := by
  simp [recordFields, recordCdb, byteAt, cdbOff, encodeCbw_eq]

/-- A record of at least 25 bytes is its first 25 bytes and its padding. -/
theorem record_eq_bytes (bytes : List Byte) (h : 25 ≤ bytes.length) :
    bytes = (List.range 25).map (byteAt bytes) ++ bytes.drop 25 := by
  apply List.ext_getElem
  · simp; omega
  · intro i h1 h2
    by_cases hi : i < 25
    · rw [List.getElem_append_left (by simpa using hi)]
      simp [byteAt, h1]
    · rw [List.getElem_append_right (by simpa using hi)]
      simp; congr 1; omega

/-- Encoding the fields read from a record gives the record back. -/
theorem encodeCbw_record (bytes : List Byte) (h : 25 ≤ bytes.length) :
    encodeCbw (recordSignature bytes) (recordOpcode bytes) (recordFields bytes) = bytes := by
  conv_rhs => rw [record_eq_bytes bytes h]
  simp [encodeCbw, recordSignature, recordOpcode, recordFields, recordCdb, cdbOff, List.range_succ]

end Sys2Proof
end

