-- ==== Sys2Proof/Laws/State.lean ====
section
/-!
SUPPORT. What each register operation does to each field of the state, true by unfolding, so that no
proof unfolds a record update.
-/

namespace Sys2Proof.Machine

variable (s : State)

@[simp] theorem State.goto_cfg (x : BotState) : (s.goto x).cfg = s.cfg := rfl
@[simp] theorem State.goto_cntHd (x : BotState) : (s.goto x).cntHd = s.cntHd := rfl
@[simp] theorem State.goto_cntDh (x : BotState) : (s.goto x).cntDh = s.cntDh := rfl
@[simp] theorem State.goto_st (x : BotState) : (s.goto x).st = x := rfl
@[simp] theorem State.goto_rxOff (x : BotState) : (s.goto x).rxOff = s.rxOff := rfl
@[simp] theorem State.goto_txCur (x : BotState) : (s.goto x).txCur = s.txCur := rfl
@[simp] theorem State.goto_ready (x : BotState) : (s.goto x).ready = s.ready := rfl
@[simp] theorem State.goto_polls (x : BotState) : (s.goto x).polls = s.polls := rfl
@[simp] theorem State.goto_fail (x : BotState) : (s.goto x).fail = s.fail := rfl
@[simp] theorem State.goto_cbw (x : BotState) : (s.goto x).cbw = s.cbw := rfl
@[simp] theorem State.goto_trace (x : BotState) : (s.goto x).trace = s.trace := rfl
@[simp] theorem State.goto_arbLog (x : BotState) : (s.goto x).arbLog = s.arbLog := rfl
@[simp] theorem State.goto_botLog (x : BotState) : (s.goto x).botLog = s.botLog := rfl
@[simp] theorem State.goto_script (x : BotState) : (s.goto x).script = s.script := rfl
@[simp] theorem State.goto_draws (x : BotState) : (s.goto x).draws = s.draws := rfl

@[simp] theorem State.setRxOff_cfg (n : Nat) : (s.setRxOff n).cfg = s.cfg := rfl
@[simp] theorem State.setRxOff_cntHd (n : Nat) : (s.setRxOff n).cntHd = s.cntHd := rfl
@[simp] theorem State.setRxOff_cntDh (n : Nat) : (s.setRxOff n).cntDh = s.cntDh := rfl
@[simp] theorem State.setRxOff_st (n : Nat) : (s.setRxOff n).st = s.st := rfl
@[simp] theorem State.setRxOff_rxOff (n : Nat) : (s.setRxOff n).rxOff = n := rfl
@[simp] theorem State.setRxOff_txCur (n : Nat) : (s.setRxOff n).txCur = s.txCur := rfl
@[simp] theorem State.setRxOff_ready (n : Nat) : (s.setRxOff n).ready = s.ready := rfl
@[simp] theorem State.setRxOff_polls (n : Nat) : (s.setRxOff n).polls = s.polls := rfl
@[simp] theorem State.setRxOff_fail (n : Nat) : (s.setRxOff n).fail = s.fail := rfl
@[simp] theorem State.setRxOff_cbw (n : Nat) : (s.setRxOff n).cbw = s.cbw := rfl
@[simp] theorem State.setRxOff_trace (n : Nat) : (s.setRxOff n).trace = s.trace := rfl
@[simp] theorem State.setRxOff_arbLog (n : Nat) : (s.setRxOff n).arbLog = s.arbLog := rfl
@[simp] theorem State.setRxOff_botLog (n : Nat) : (s.setRxOff n).botLog = s.botLog := rfl
@[simp] theorem State.setRxOff_script (n : Nat) : (s.setRxOff n).script = s.script := rfl
@[simp] theorem State.setRxOff_draws (n : Nat) : (s.setRxOff n).draws = s.draws := rfl

@[simp] theorem State.setTxCur_cfg (n : Nat) : (s.setTxCur n).cfg = s.cfg := rfl
@[simp] theorem State.setTxCur_cntHd (n : Nat) : (s.setTxCur n).cntHd = s.cntHd := rfl
@[simp] theorem State.setTxCur_cntDh (n : Nat) : (s.setTxCur n).cntDh = s.cntDh := rfl
@[simp] theorem State.setTxCur_st (n : Nat) : (s.setTxCur n).st = s.st := rfl
@[simp] theorem State.setTxCur_rxOff (n : Nat) : (s.setTxCur n).rxOff = s.rxOff := rfl
@[simp] theorem State.setTxCur_txCur (n : Nat) : (s.setTxCur n).txCur = n := rfl
@[simp] theorem State.setTxCur_ready (n : Nat) : (s.setTxCur n).ready = s.ready := rfl
@[simp] theorem State.setTxCur_polls (n : Nat) : (s.setTxCur n).polls = s.polls := rfl
@[simp] theorem State.setTxCur_fail (n : Nat) : (s.setTxCur n).fail = s.fail := rfl
@[simp] theorem State.setTxCur_cbw (n : Nat) : (s.setTxCur n).cbw = s.cbw := rfl
@[simp] theorem State.setTxCur_trace (n : Nat) : (s.setTxCur n).trace = s.trace := rfl
@[simp] theorem State.setTxCur_arbLog (n : Nat) : (s.setTxCur n).arbLog = s.arbLog := rfl
@[simp] theorem State.setTxCur_botLog (n : Nat) : (s.setTxCur n).botLog = s.botLog := rfl
@[simp] theorem State.setTxCur_script (n : Nat) : (s.setTxCur n).script = s.script := rfl
@[simp] theorem State.setTxCur_draws (n : Nat) : (s.setTxCur n).draws = s.draws := rfl

@[simp] theorem State.setReady_cfg (b : Bool) : (s.setReady b).cfg = s.cfg := rfl
@[simp] theorem State.setReady_cntHd (b : Bool) : (s.setReady b).cntHd = s.cntHd := rfl
@[simp] theorem State.setReady_cntDh (b : Bool) : (s.setReady b).cntDh = s.cntDh := rfl
@[simp] theorem State.setReady_st (b : Bool) : (s.setReady b).st = s.st := rfl
@[simp] theorem State.setReady_rxOff (b : Bool) : (s.setReady b).rxOff = s.rxOff := rfl
@[simp] theorem State.setReady_txCur (b : Bool) : (s.setReady b).txCur = s.txCur := rfl
@[simp] theorem State.setReady_ready (b : Bool) : (s.setReady b).ready = b := rfl
@[simp] theorem State.setReady_polls (b : Bool) : (s.setReady b).polls = s.polls := rfl
@[simp] theorem State.setReady_fail (b : Bool) : (s.setReady b).fail = s.fail := rfl
@[simp] theorem State.setReady_cbw (b : Bool) : (s.setReady b).cbw = s.cbw := rfl
@[simp] theorem State.setReady_trace (b : Bool) : (s.setReady b).trace = s.trace := rfl
@[simp] theorem State.setReady_arbLog (b : Bool) : (s.setReady b).arbLog = s.arbLog := rfl
@[simp] theorem State.setReady_botLog (b : Bool) : (s.setReady b).botLog = s.botLog := rfl
@[simp] theorem State.setReady_script (b : Bool) : (s.setReady b).script = s.script := rfl
@[simp] theorem State.setReady_draws (b : Bool) : (s.setReady b).draws = s.draws := rfl

@[simp] theorem State.setPolls_cfg (n : Nat) : (s.setPolls n).cfg = s.cfg := rfl
@[simp] theorem State.setPolls_cntHd (n : Nat) : (s.setPolls n).cntHd = s.cntHd := rfl
@[simp] theorem State.setPolls_cntDh (n : Nat) : (s.setPolls n).cntDh = s.cntDh := rfl
@[simp] theorem State.setPolls_st (n : Nat) : (s.setPolls n).st = s.st := rfl
@[simp] theorem State.setPolls_rxOff (n : Nat) : (s.setPolls n).rxOff = s.rxOff := rfl
@[simp] theorem State.setPolls_txCur (n : Nat) : (s.setPolls n).txCur = s.txCur := rfl
@[simp] theorem State.setPolls_ready (n : Nat) : (s.setPolls n).ready = s.ready := rfl
@[simp] theorem State.setPolls_polls (n : Nat) : (s.setPolls n).polls = n := rfl
@[simp] theorem State.setPolls_fail (n : Nat) : (s.setPolls n).fail = s.fail := rfl
@[simp] theorem State.setPolls_cbw (n : Nat) : (s.setPolls n).cbw = s.cbw := rfl
@[simp] theorem State.setPolls_trace (n : Nat) : (s.setPolls n).trace = s.trace := rfl
@[simp] theorem State.setPolls_arbLog (n : Nat) : (s.setPolls n).arbLog = s.arbLog := rfl
@[simp] theorem State.setPolls_botLog (n : Nat) : (s.setPolls n).botLog = s.botLog := rfl
@[simp] theorem State.setPolls_script (n : Nat) : (s.setPolls n).script = s.script := rfl
@[simp] theorem State.setPolls_draws (n : Nat) : (s.setPolls n).draws = s.draws := rfl

@[simp] theorem State.setFail_cfg (b : Bool) : (s.setFail b).cfg = s.cfg := rfl
@[simp] theorem State.setFail_cntHd (b : Bool) : (s.setFail b).cntHd = s.cntHd := rfl
@[simp] theorem State.setFail_cntDh (b : Bool) : (s.setFail b).cntDh = s.cntDh := rfl
@[simp] theorem State.setFail_st (b : Bool) : (s.setFail b).st = s.st := rfl
@[simp] theorem State.setFail_rxOff (b : Bool) : (s.setFail b).rxOff = s.rxOff := rfl
@[simp] theorem State.setFail_txCur (b : Bool) : (s.setFail b).txCur = s.txCur := rfl
@[simp] theorem State.setFail_ready (b : Bool) : (s.setFail b).ready = s.ready := rfl
@[simp] theorem State.setFail_polls (b : Bool) : (s.setFail b).polls = s.polls := rfl
@[simp] theorem State.setFail_fail (b : Bool) : (s.setFail b).fail = b := rfl
@[simp] theorem State.setFail_cbw (b : Bool) : (s.setFail b).cbw = s.cbw := rfl
@[simp] theorem State.setFail_trace (b : Bool) : (s.setFail b).trace = s.trace := rfl
@[simp] theorem State.setFail_arbLog (b : Bool) : (s.setFail b).arbLog = s.arbLog := rfl
@[simp] theorem State.setFail_botLog (b : Bool) : (s.setFail b).botLog = s.botLog := rfl
@[simp] theorem State.setFail_script (b : Bool) : (s.setFail b).script = s.script := rfl
@[simp] theorem State.setFail_draws (b : Bool) : (s.setFail b).draws = s.draws := rfl

@[simp] theorem State.storeCbw_cfg (i : Nat) (b : Byte) : (s.storeCbw i b).cfg = s.cfg := rfl
@[simp] theorem State.storeCbw_cntHd (i : Nat) (b : Byte) : (s.storeCbw i b).cntHd = s.cntHd := rfl
@[simp] theorem State.storeCbw_cntDh (i : Nat) (b : Byte) : (s.storeCbw i b).cntDh = s.cntDh := rfl
@[simp] theorem State.storeCbw_st (i : Nat) (b : Byte) : (s.storeCbw i b).st = s.st := rfl
@[simp] theorem State.storeCbw_rxOff (i : Nat) (b : Byte) : (s.storeCbw i b).rxOff = s.rxOff := rfl
@[simp] theorem State.storeCbw_txCur (i : Nat) (b : Byte) : (s.storeCbw i b).txCur = s.txCur := rfl
@[simp] theorem State.storeCbw_ready (i : Nat) (b : Byte) : (s.storeCbw i b).ready = s.ready := rfl
@[simp] theorem State.storeCbw_polls (i : Nat) (b : Byte) : (s.storeCbw i b).polls = s.polls := rfl
@[simp] theorem State.storeCbw_fail (i : Nat) (b : Byte) : (s.storeCbw i b).fail = s.fail := rfl
@[simp] theorem State.storeCbw_cbw (i : Nat) (b : Byte) : (s.storeCbw i b).cbw = s.cbw.set i b := rfl
@[simp] theorem State.storeCbw_trace (i : Nat) (b : Byte) : (s.storeCbw i b).trace = s.trace := rfl
@[simp] theorem State.storeCbw_arbLog (i : Nat) (b : Byte) : (s.storeCbw i b).arbLog = s.arbLog := rfl
@[simp] theorem State.storeCbw_botLog (i : Nat) (b : Byte) : (s.storeCbw i b).botLog = s.botLog := rfl
@[simp] theorem State.storeCbw_script (i : Nat) (b : Byte) : (s.storeCbw i b).script = s.script := rfl
@[simp] theorem State.storeCbw_draws (i : Nat) (b : Byte) : (s.storeCbw i b).draws = s.draws := rfl

@[simp] theorem State.setCounters_cfg (hd dh : Nat) : (s.setCounters hd dh).cfg = s.cfg := rfl
@[simp] theorem State.setCounters_cntHd (hd dh : Nat) : (s.setCounters hd dh).cntHd = hd := rfl
@[simp] theorem State.setCounters_cntDh (hd dh : Nat) : (s.setCounters hd dh).cntDh = dh := rfl
@[simp] theorem State.setCounters_st (hd dh : Nat) : (s.setCounters hd dh).st = s.st := rfl
@[simp] theorem State.setCounters_rxOff (hd dh : Nat) : (s.setCounters hd dh).rxOff = s.rxOff := rfl
@[simp] theorem State.setCounters_txCur (hd dh : Nat) : (s.setCounters hd dh).txCur = s.txCur := rfl
@[simp] theorem State.setCounters_ready (hd dh : Nat) : (s.setCounters hd dh).ready = s.ready := rfl
@[simp] theorem State.setCounters_polls (hd dh : Nat) : (s.setCounters hd dh).polls = s.polls := rfl
@[simp] theorem State.setCounters_fail (hd dh : Nat) : (s.setCounters hd dh).fail = s.fail := rfl
@[simp] theorem State.setCounters_cbw (hd dh : Nat) : (s.setCounters hd dh).cbw = s.cbw := rfl
@[simp] theorem State.setCounters_trace (hd dh : Nat) : (s.setCounters hd dh).trace = s.trace := rfl
@[simp] theorem State.setCounters_arbLog (hd dh : Nat) : (s.setCounters hd dh).arbLog = s.arbLog := rfl
@[simp] theorem State.setCounters_botLog (hd dh : Nat) : (s.setCounters hd dh).botLog = s.botLog := rfl
@[simp] theorem State.setCounters_script (hd dh : Nat) : (s.setCounters hd dh).script = s.script := rfl
@[simp] theorem State.setCounters_draws (hd dh : Nat) : (s.setCounters hd dh).draws = s.draws := rfl

@[simp] theorem State.emit_cfg (e : TraceEvent) : (s.emit e).cfg = s.cfg := rfl
@[simp] theorem State.emit_cntHd (e : TraceEvent) : (s.emit e).cntHd = s.cntHd := rfl
@[simp] theorem State.emit_cntDh (e : TraceEvent) : (s.emit e).cntDh = s.cntDh := rfl
@[simp] theorem State.emit_st (e : TraceEvent) : (s.emit e).st = s.st := rfl
@[simp] theorem State.emit_rxOff (e : TraceEvent) : (s.emit e).rxOff = s.rxOff := rfl
@[simp] theorem State.emit_txCur (e : TraceEvent) : (s.emit e).txCur = s.txCur := rfl
@[simp] theorem State.emit_ready (e : TraceEvent) : (s.emit e).ready = s.ready := rfl
@[simp] theorem State.emit_polls (e : TraceEvent) : (s.emit e).polls = s.polls := rfl
@[simp] theorem State.emit_fail (e : TraceEvent) : (s.emit e).fail = s.fail := rfl
@[simp] theorem State.emit_cbw (e : TraceEvent) : (s.emit e).cbw = s.cbw := rfl
@[simp] theorem State.emit_trace (e : TraceEvent) : (s.emit e).trace = e :: s.trace := rfl
@[simp] theorem State.emit_arbLog (e : TraceEvent) : (s.emit e).arbLog = s.arbLog := rfl
@[simp] theorem State.emit_botLog (e : TraceEvent) : (s.emit e).botLog = s.botLog := rfl
@[simp] theorem State.emit_script (e : TraceEvent) : (s.emit e).script = s.script := rfl
@[simp] theorem State.emit_draws (e : TraceEvent) : (s.emit e).draws = s.draws := rfl

@[simp] theorem State.logArb_cfg (r : ArbRecord) : (s.logArb r).cfg = s.cfg := rfl
@[simp] theorem State.logArb_cntHd (r : ArbRecord) : (s.logArb r).cntHd = s.cntHd := rfl
@[simp] theorem State.logArb_cntDh (r : ArbRecord) : (s.logArb r).cntDh = s.cntDh := rfl
@[simp] theorem State.logArb_st (r : ArbRecord) : (s.logArb r).st = s.st := rfl
@[simp] theorem State.logArb_rxOff (r : ArbRecord) : (s.logArb r).rxOff = s.rxOff := rfl
@[simp] theorem State.logArb_txCur (r : ArbRecord) : (s.logArb r).txCur = s.txCur := rfl
@[simp] theorem State.logArb_ready (r : ArbRecord) : (s.logArb r).ready = s.ready := rfl
@[simp] theorem State.logArb_polls (r : ArbRecord) : (s.logArb r).polls = s.polls := rfl
@[simp] theorem State.logArb_fail (r : ArbRecord) : (s.logArb r).fail = s.fail := rfl
@[simp] theorem State.logArb_cbw (r : ArbRecord) : (s.logArb r).cbw = s.cbw := rfl
@[simp] theorem State.logArb_trace (r : ArbRecord) : (s.logArb r).trace = s.trace := rfl
@[simp] theorem State.logArb_arbLog (r : ArbRecord) : (s.logArb r).arbLog = r :: s.arbLog := rfl
@[simp] theorem State.logArb_botLog (r : ArbRecord) : (s.logArb r).botLog = s.botLog := rfl
@[simp] theorem State.logArb_script (r : ArbRecord) : (s.logArb r).script = s.script := rfl
@[simp] theorem State.logArb_draws (r : ArbRecord) : (s.logArb r).draws = s.draws := rfl

@[simp] theorem State.logBot_cfg (r : BotRecord) : (s.logBot r).cfg = s.cfg := rfl
@[simp] theorem State.logBot_cntHd (r : BotRecord) : (s.logBot r).cntHd = s.cntHd := rfl
@[simp] theorem State.logBot_cntDh (r : BotRecord) : (s.logBot r).cntDh = s.cntDh := rfl
@[simp] theorem State.logBot_st (r : BotRecord) : (s.logBot r).st = s.st := rfl
@[simp] theorem State.logBot_rxOff (r : BotRecord) : (s.logBot r).rxOff = s.rxOff := rfl
@[simp] theorem State.logBot_txCur (r : BotRecord) : (s.logBot r).txCur = s.txCur := rfl
@[simp] theorem State.logBot_ready (r : BotRecord) : (s.logBot r).ready = s.ready := rfl
@[simp] theorem State.logBot_polls (r : BotRecord) : (s.logBot r).polls = s.polls := rfl
@[simp] theorem State.logBot_fail (r : BotRecord) : (s.logBot r).fail = s.fail := rfl
@[simp] theorem State.logBot_cbw (r : BotRecord) : (s.logBot r).cbw = s.cbw := rfl
@[simp] theorem State.logBot_trace (r : BotRecord) : (s.logBot r).trace = s.trace := rfl
@[simp] theorem State.logBot_arbLog (r : BotRecord) : (s.logBot r).arbLog = s.arbLog := rfl
@[simp] theorem State.logBot_botLog (r : BotRecord) : (s.logBot r).botLog = r :: s.botLog := rfl
@[simp] theorem State.logBot_script (r : BotRecord) : (s.logBot r).script = s.script := rfl
@[simp] theorem State.logBot_draws (r : BotRecord) : (s.logBot r).draws = s.draws := rfl

@[simp] theorem State.endCycle_cfg : s.endCycle.cfg = s.cfg := rfl
@[simp] theorem State.endCycle_cntHd : s.endCycle.cntHd = s.cntHd := rfl
@[simp] theorem State.endCycle_cntDh : s.endCycle.cntDh = s.cntDh := rfl
@[simp] theorem State.endCycle_st : s.endCycle.st = s.st := rfl
@[simp] theorem State.endCycle_rxOff : s.endCycle.rxOff = s.rxOff := rfl
@[simp] theorem State.endCycle_txCur : s.endCycle.txCur = s.txCur := rfl
@[simp] theorem State.endCycle_ready : s.endCycle.ready = s.ready := rfl
@[simp] theorem State.endCycle_polls : s.endCycle.polls = s.polls := rfl
@[simp] theorem State.endCycle_fail : s.endCycle.fail = s.fail := rfl
@[simp] theorem State.endCycle_cbw : s.endCycle.cbw = s.cbw := rfl
@[simp] theorem State.endCycle_trace : s.endCycle.trace = s.trace := rfl
@[simp] theorem State.endCycle_arbLog : s.endCycle.arbLog = s.arbLog := rfl
@[simp] theorem State.endCycle_botLog : s.endCycle.botLog = s.botLog := rfl
@[simp] theorem State.endCycle_script : s.endCycle.script = s.script.tail := rfl
@[simp] theorem State.endCycle_draws : s.endCycle.draws = s.draws + 1 := rfl

@[simp] theorem State.resetArb_cfg : s.resetArb.cfg = s.cfg := rfl
@[simp] theorem State.resetArb_cntHd : s.resetArb.cntHd = 0 := rfl
@[simp] theorem State.resetArb_cntDh : s.resetArb.cntDh = 0 := rfl
@[simp] theorem State.resetArb_st : s.resetArb.st = s.st := rfl
@[simp] theorem State.resetArb_rxOff : s.resetArb.rxOff = s.rxOff := rfl
@[simp] theorem State.resetArb_txCur : s.resetArb.txCur = s.txCur := rfl
@[simp] theorem State.resetArb_ready : s.resetArb.ready = s.ready := rfl
@[simp] theorem State.resetArb_polls : s.resetArb.polls = s.polls := rfl
@[simp] theorem State.resetArb_fail : s.resetArb.fail = s.fail := rfl
@[simp] theorem State.resetArb_cbw : s.resetArb.cbw = s.cbw := rfl
@[simp] theorem State.resetArb_trace : s.resetArb.trace = s.trace := rfl
@[simp] theorem State.resetArb_arbLog : s.resetArb.arbLog = s.arbLog := rfl
@[simp] theorem State.resetArb_botLog : s.resetArb.botLog = s.botLog := rfl
@[simp] theorem State.resetArb_script : s.resetArb.script = s.script := rfl
@[simp] theorem State.resetArb_draws : s.resetArb.draws = s.draws := rfl

@[simp] theorem State.resetBot_cfg : s.resetBot.cfg = s.cfg := rfl
@[simp] theorem State.resetBot_cntHd : s.resetBot.cntHd = s.cntHd := rfl
@[simp] theorem State.resetBot_cntDh : s.resetBot.cntDh = s.cntDh := rfl
@[simp] theorem State.resetBot_st : s.resetBot.st = .recvCbw := rfl
@[simp] theorem State.resetBot_rxOff : s.resetBot.rxOff = 0 := rfl
@[simp] theorem State.resetBot_txCur : s.resetBot.txCur = 0 := rfl
@[simp] theorem State.resetBot_ready : s.resetBot.ready = false := rfl
@[simp] theorem State.resetBot_polls : s.resetBot.polls = 0 := rfl
@[simp] theorem State.resetBot_fail : s.resetBot.fail = false := rfl
@[simp] theorem State.resetBot_cbw : s.resetBot.cbw = freeBuffer s.cfg.cbwLen (s.draws + 1) := rfl
@[simp] theorem State.resetBot_trace : s.resetBot.trace = s.trace := rfl
@[simp] theorem State.resetBot_arbLog : s.resetBot.arbLog = s.arbLog := rfl
@[simp] theorem State.resetBot_botLog : s.resetBot.botLog = s.botLog := rfl
@[simp] theorem State.resetBot_script : s.resetBot.script = s.script := rfl
@[simp] theorem State.resetBot_draws : s.resetBot.draws = s.draws := rfl

@[simp] theorem State.toCsw_cfg : s.toCsw.cfg = s.cfg := rfl
@[simp] theorem State.toCsw_cntHd : s.toCsw.cntHd = s.cntHd := rfl
@[simp] theorem State.toCsw_cntDh : s.toCsw.cntDh = s.cntDh := rfl
@[simp] theorem State.toCsw_st : s.toCsw.st = .sendCsw := rfl
@[simp] theorem State.toCsw_rxOff : s.toCsw.rxOff = s.rxOff := rfl
@[simp] theorem State.toCsw_txCur : s.toCsw.txCur = s.txCur := rfl
@[simp] theorem State.toCsw_ready : s.toCsw.ready = s.ready := rfl
@[simp] theorem State.toCsw_polls : s.toCsw.polls = s.polls := rfl
@[simp] theorem State.toCsw_fail : s.toCsw.fail = s.fail := rfl
@[simp] theorem State.toCsw_cbw : s.toCsw.cbw = s.cbw := rfl
@[simp] theorem State.toCsw_trace : s.toCsw.trace = s.trace := rfl
@[simp] theorem State.toCsw_arbLog : s.toCsw.arbLog = s.arbLog := rfl
@[simp] theorem State.toCsw_botLog : s.toCsw.botLog = s.botLog := rfl
@[simp] theorem State.toCsw_script : s.toCsw.script = s.script := rfl
@[simp] theorem State.toCsw_draws : s.toCsw.draws = s.draws := rfl

@[simp] theorem State.markFailed_cfg : s.markFailed.cfg = s.cfg := rfl
@[simp] theorem State.markFailed_cntHd : s.markFailed.cntHd = s.cntHd := rfl
@[simp] theorem State.markFailed_cntDh : s.markFailed.cntDh = s.cntDh := rfl
@[simp] theorem State.markFailed_st : s.markFailed.st = s.st := rfl
@[simp] theorem State.markFailed_rxOff : s.markFailed.rxOff = s.rxOff := rfl
@[simp] theorem State.markFailed_txCur : s.markFailed.txCur = s.txCur := rfl
@[simp] theorem State.markFailed_ready : s.markFailed.ready = s.ready := rfl
@[simp] theorem State.markFailed_polls : s.markFailed.polls = s.polls := rfl
@[simp] theorem State.markFailed_fail : s.markFailed.fail = true := rfl
@[simp] theorem State.markFailed_cbw : s.markFailed.cbw = s.cbw := rfl
@[simp] theorem State.markFailed_trace : s.markFailed.trace = s.trace := rfl
@[simp] theorem State.markFailed_arbLog : s.markFailed.arbLog = s.arbLog := rfl
@[simp] theorem State.markFailed_botLog : s.markFailed.botLog = s.botLog := rfl
@[simp] theorem State.markFailed_script : s.markFailed.script = s.script := rfl
@[simp] theorem State.markFailed_draws : s.markFailed.draws = s.draws := rfl

@[simp] theorem State.clearFail_cfg : s.clearFail.cfg = s.cfg := rfl
@[simp] theorem State.clearFail_cntHd : s.clearFail.cntHd = s.cntHd := rfl
@[simp] theorem State.clearFail_cntDh : s.clearFail.cntDh = s.cntDh := rfl
@[simp] theorem State.clearFail_st : s.clearFail.st = s.st := rfl
@[simp] theorem State.clearFail_rxOff : s.clearFail.rxOff = s.rxOff := rfl
@[simp] theorem State.clearFail_txCur : s.clearFail.txCur = s.txCur := rfl
@[simp] theorem State.clearFail_ready : s.clearFail.ready = s.ready := rfl
@[simp] theorem State.clearFail_polls : s.clearFail.polls = s.polls := rfl
@[simp] theorem State.clearFail_fail : s.clearFail.fail = false := rfl
@[simp] theorem State.clearFail_cbw : s.clearFail.cbw = s.cbw := rfl
@[simp] theorem State.clearFail_trace : s.clearFail.trace = s.trace := rfl
@[simp] theorem State.clearFail_arbLog : s.clearFail.arbLog = s.arbLog := rfl
@[simp] theorem State.clearFail_botLog : s.clearFail.botLog = s.botLog := rfl
@[simp] theorem State.clearFail_script : s.clearFail.script = s.script := rfl
@[simp] theorem State.clearFail_draws : s.clearFail.draws = s.draws := rfl

end Sys2Proof.Machine
end

