-- ==== Sys2Proof/Laws/Ops.lean ====
section
/-!
SUPPORT. What each shared operation of the two blocks does, said once.
-/

namespace Sys2Proof.Machine

/-! ### The relay (40_link_arbiter.md R140 to R148) -/

section Relay
variable (s : State) (h d : SideIn) (ls : LineState) (c : ArbCase)

@[simp] theorem State.arbCycle_cfg : (s.arbCycle h d ls c).cfg = s.cfg := rfl
@[simp] theorem State.arbCycle_cntHd :
    (s.arbCycle h d ls c).cntHd = relayCount s.cfg.pPreamble s.cntHd h := rfl
@[simp] theorem State.arbCycle_cntDh :
    (s.arbCycle h d ls c).cntDh = relayCount s.cfg.pPreamble s.cntDh d := rfl
@[simp] theorem State.arbCycle_st : (s.arbCycle h d ls c).st = s.st := rfl
@[simp] theorem State.arbCycle_rxOff : (s.arbCycle h d ls c).rxOff = s.rxOff := rfl
@[simp] theorem State.arbCycle_txCur : (s.arbCycle h d ls c).txCur = s.txCur := rfl
@[simp] theorem State.arbCycle_ready : (s.arbCycle h d ls c).ready = s.ready := rfl
@[simp] theorem State.arbCycle_polls : (s.arbCycle h d ls c).polls = s.polls := rfl
@[simp] theorem State.arbCycle_fail : (s.arbCycle h d ls c).fail = s.fail := rfl
@[simp] theorem State.arbCycle_cbw : (s.arbCycle h d ls c).cbw = s.cbw := rfl
@[simp] theorem State.arbCycle_trace : (s.arbCycle h d ls c).trace = s.trace := rfl
@[simp] theorem State.arbCycle_arbLog :
    (s.arbCycle h d ls c).arbLog = s.arbPorts h d ls c :: s.arbLog := rfl
@[simp] theorem State.arbCycle_botLog : (s.arbCycle h d ls c).botLog = s.botLog := rfl
@[simp] theorem State.arbCycle_script : (s.arbCycle h d ls c).script = s.script := rfl
@[simp] theorem State.arbCycle_draws : (s.arbCycle h d ls c).draws = s.draws := rfl

end Relay

/-- R140: the counter never exceeds P_PREAMBLE. -/
theorem relayCount_le (p cnt : Nat) (src : SideIn) : relayCount p cnt src ≤ p := by
  unfold relayCount
  split <;> omega

/-! ### The buffer (20_memory.md R61) -/

/-- A store inside the buffer writes that byte and leaves every other one. -/
theorem State.cbwByte_storeCbw (s : State) (i : Nat) (b : Byte) (a : Nat) (h : i < s.cbw.length) :
    (s.storeCbw i b).cbwByte a = if a = i then b else s.cbwByte a := by
  by_cases ha : a = i
  · subst ha
    simp [State.cbwByte, byteAt, h]
  · simp [State.cbwByte, byteAt, ha, List.getElem?_set_ne (Ne.symm ha)]

@[simp] theorem length_freeBuffer (n k : Nat) : (freeBuffer n k).length = n := by simp [freeBuffer]

/-! ### TEST_UNIT_READY's flags and the data-phase test (42_scsi_commands.md R201, R205, R215) -/

theorem State.pollReadiness_below (s : State) (h : s.polls < turFailLimit) :
    s.pollReadiness = s.markFailed.setPolls (s.polls + 1) := if_pos h

theorem State.pollReadiness_atLimit (s : State) (h : ¬ s.polls < turFailLimit) :
    s.pollReadiness = s.setReady true := if_neg h

theorem State.ifReady_ready (s : State) (x : BotState) (h : s.ready = true) :
    s.ifReady x = s.goto x := if_pos h

theorem State.ifReady_notReady (s : State) (x : BotState) (h : s.ready = false) :
    s.ifReady x = s.markFailed.toCsw := if_neg (by simp [h])

/-! ### What BOT's edge can do (41_bot_transport.md R178) -/

/-- Every way BOT's edge answers a next state, with its guard. -/
inductive BotMove (b : BotIn) (s : State) : State → Prop
  /-- R270, R272. -/
  | reset (hr : b.rst = true) : BotMove b s s.resetBot
  /-- R164. -/
  | wait (hr : b.rst = false) (hs : s.st = .recvCbw) (hv : b.rxValid = false) : BotMove b s s
  /-- R162. -/
  | store (hr : b.rst = false) (hs : s.st = .recvCbw) (hv : b.rxValid = true)
      (ho : s.rxOff ≠ s.cfg.cbwLen - 1) :
      BotMove b s ((s.storeCbw s.rxOff b.rxData).setRxOff (s.rxOff + 1))
  /-- R163. -/
  | storeLast (hr : b.rst = false) (hs : s.st = .recvCbw) (hv : b.rxValid = true)
      (ho : s.rxOff = s.cfg.cbwLen - 1) :
      BotMove b s ((((s.storeCbw s.rxOff b.rxData).setRxOff 0).setTxCur 0).goto .processCbw)
  /-- R165 to R167: the decoded command runs. -/
  | command (hr : b.rst = false) (hs : s.st = .processCbw)
      (hl : s.cbw.length = 25 ∨ s.cbw.length = 31) (u : State)
      (he : exec (decodeCommand s.cbw) s = .next u) : BotMove b s u
  /-- R172. -/
  | stall (hr : b.rst = false) (hs : s.st.sends = true) (hv : b.txReady = false) : BotMove b s s
  /-- R168 to R170. -/
  | advance (hr : b.rst = false) (hs : s.st.sends = true) (hv : b.txReady = true)
      (ho : s.txCur ≠ s.recLen - 1) : BotMove b s (s.setTxCur (s.txCur + 1))
  /-- R168, R169. -/
  | finishData (hr : b.rst = false) (hs : s.st = .sendCapacity ∨ s.st = .sendData)
      (hv : b.txReady = true) (ho : s.txCur = s.recLen - 1) : BotMove b s (s.setTxCur 0).toCsw
  /-- R171. -/
  | finishCsw (hr : b.rst = false) (hs : s.st = .sendCsw) (hv : b.txReady = true)
      (ho : s.txCur = s.recLen - 1) :
      BotMove b s (((s.emit (.cswStatus s.status)).setTxCur 0).clearFail.goto .recvCbw)

theorem State.onLastByte_iff (s : State) : s.onLastByte = true ↔ s.txCur = s.recLen - 1 := by
  simp [State.onLastByte]

theorem State.transmit_move {b : BotIn} {s : State} (hr : b.rst = false) (hs : s.st.sends = true) :
    BotMove b s (s.transmit b) := by
  unfold State.transmit
  by_cases hv : b.txReady = true
  · by_cases ho : s.txCur = s.recLen - 1
    · rw [if_pos hv, if_pos (s.onLastByte_iff.2 ho)]
      unfold State.endRecord
      rcases hst : s.st with _ | _ | _ | _ | _ <;> simp only
      · simp [hst, BotState.sends] at hs
      · simp [hst, BotState.sends] at hs
      · exact .finishData hr (.inl hst) hv ho
      · exact .finishData hr (.inr hst) hv ho
      · exact .finishCsw hr hst hv ho
    · rw [if_pos hv, if_neg (mt s.onLastByte_iff.1 ho)]
      exact .advance hr hs hv ho
  · rw [if_neg hv]
    exact .stall hr hs (by simpa using hv)

theorem processCbw_next {s u : State} (h : processCbw s = .next u) :
    (s.cbw.length = 25 ∨ s.cbw.length = 31) ∧ exec (decodeCommand s.cbw) s = .next u := by
  unfold processCbw decodeCbw at h
  by_cases hl : s.cbw.length = 25 ∨ s.cbw.length = 31
  · rw [if_pos hl] at h
    exact ⟨hl, h⟩
  · rw [if_neg hl] at h
    cases h

theorem botEdge_move {b : BotIn} {s u : State} (h : botEdge b s = .next u) : BotMove b s u := by
  unfold botEdge at h
  by_cases hr : b.rst = true
  · rw [if_pos hr] at h
    cases h
    exact .reset hr
  · rw [if_neg hr] at h
    have hr : b.rst = false := by simpa using hr
    rcases hst : s.st with _ | _ | _ | _ | _ <;> rw [hst] at h <;> simp only at h
    · cases h
      unfold State.receive
      by_cases hv : b.rxValid = true
      · by_cases ho : s.rxOff = s.cfg.cbwLen - 1
        · rw [if_pos hv, if_pos ho]; exact .storeLast hr hst hv ho
        · rw [if_pos hv, if_neg ho]; exact .store hr hst hv ho
      · rw [if_neg hv]; exact .wait hr hst (by simpa using hv)
    · obtain ⟨hl, he⟩ := processCbw_next h
      exact .command hr hst hl u he
    · cases h; exact State.transmit_move hr (by rw [hst]; rfl)
    · cases h; exact State.transmit_move hr (by rw [hst]; rfl)
    · cases h; exact State.transmit_move hr (by rw [hst]; rfl)

/-! ### What a decoded command can do (R165, R166, 42_scsi_commands.md) -/

/-- Every way the PROCESS_CBW cycle answers a next state. -/
inductive CommandMove (s : State) : State → Prop
  /-- R165. -/
  | discard (hg : recordSignature s.cbw ≠ cbwMagic) : CommandMove s (s.goto .recvCbw)
  /-- R201, while `polls` is below its limit. -/
  | pollFails (hg : recordSignature s.cbw = cbwMagic) (ho : recordOpcode s.cbw = opTestUnitReady)
      (hp : s.polls < turFailLimit) :
      CommandMove s ((s.emit (.opcode opTestUnitReady)).markFailed.setPolls (s.polls + 1)).toCsw
  /-- R201, at the limit. -/
  | pollPasses (hg : recordSignature s.cbw = cbwMagic) (ho : recordOpcode s.cbw = opTestUnitReady)
      (hp : ¬ s.polls < turFailLimit) :
      CommandMove s ((s.emit (.opcode opTestUnitReady)).setReady true).toCsw
  /-- R205, R215, not ready. -/
  | notReady (hg : recordSignature s.cbw = cbwMagic) (op : Byte) (ho : recordOpcode s.cbw = op)
      (hop : op = opReadCapacity10 ∨ op = opRead10) (hp : s.ready = false) :
      CommandMove s (s.emit (.opcode op)).markFailed.toCsw
  /-- R205, ready. -/
  | capacity (hg : recordSignature s.cbw = cbwMagic) (ho : recordOpcode s.cbw = opReadCapacity10)
      (hp : s.ready = true) : CommandMove s ((s.emit (.opcode opReadCapacity10)).goto .sendCapacity)
  /-- R215, ready. -/
  | data (hg : recordSignature s.cbw = cbwMagic) (ho : recordOpcode s.cbw = opRead10)
      (hp : s.ready = true) : CommandMove s ((s.emit (.opcode opRead10)).goto .sendData)
  /-- R220. -/
  | acknowledge (hg : recordSignature s.cbw = cbwMagic) (op : Byte) (ho : recordOpcode s.cbw = op)
      (hop : op ≠ opTestUnitReady ∧ op ≠ opReadCapacity10 ∧ op ≠ opRead10) :
      CommandMove s (s.emit (.opcode op)).toCsw

/-- The command in the buffer always completes, in one of those ways. -/
theorem exec_command (s : State) : ∃ u, exec (decodeCommand s.cbw) s = .next u ∧ CommandMove s u := by
  unfold decodeCommand
  by_cases hg : recordSignature s.cbw = cbwMagic
  · rw [if_neg (not_not.2 hg)]
    by_cases h0 : recordOpcode s.cbw = opTestUnitReady
    · rw [if_pos h0]
      refine ⟨_, rfl, ?_⟩
      by_cases hp : s.polls < turFailLimit
      · rw [State.pollReadiness_below _ (by simpa using hp)]; exact .pollFails hg h0 hp
      · rw [State.pollReadiness_atLimit _ (by simpa using hp)]; exact .pollPasses hg h0 hp
    · rw [if_neg h0]
      by_cases h1 : recordOpcode s.cbw = opReadCapacity10
      · rw [if_pos h1]
        refine ⟨_, rfl, ?_⟩
        rcases hp : s.ready with _ | _
        · rw [State.ifReady_notReady _ _ (by simpa using hp)]; exact .notReady hg _ h1 (.inl rfl) hp
        · rw [State.ifReady_ready _ _ (by simpa using hp)]; exact .capacity hg h1 hp
      · rw [if_neg h1]
        by_cases h2 : recordOpcode s.cbw = opRead10
        · rw [if_pos h2]
          refine ⟨_, rfl, ?_⟩
          rcases hp : s.ready with _ | _
          · rw [State.ifReady_notReady _ _ (by simpa using hp)]; exact .notReady hg _ h2 (.inr rfl) hp
          · rw [State.ifReady_ready _ _ (by simpa using hp)]; exact .data hg h2 hp
        · rw [if_neg h2]
          exact ⟨_, rfl, .acknowledge hg _ rfl ⟨h0, h1, h2⟩⟩
  · rw [if_pos hg]
    exact ⟨_, rfl, .discard hg⟩

theorem exec_command_move {s u : State} (h : exec (decodeCommand s.cbw) s = .next u) : CommandMove s u := by
  obtain ⟨v, hv, hm⟩ := exec_command s
  rw [hv] at h
  cases h
  exact hm

end Sys2Proof.Machine
end

