-- ==== Sys2Proof/Laws/PerInstr.lean ====
section
/-!
SUPPORT. Families of statements about every instruction as syntax.
-/

namespace Sys2Proof.Laws

/-! ### EncodingShape: each instruction is encoded for the block that decodes it -/

/-- A command of BOT is encoded as a CBW record whose length is 25 bytes and the padding (30_encoding.md
R91); an arbitration case of ARB is encoded as one cycle's inputs of both sides (R109). -/
def EncodingShape.Statement : Instr → Prop
  | .badSignature s o c => ∃ b, encode (.badSignature s o c) = .cbw b ∧ b.length = c.pad.length + 25
  | .testUnitReady c => ∃ b, encode (.testUnitReady c) = .cbw b ∧ b.length = c.pad.length + 25
  | .readCapacity10 c => ∃ b, encode (.readCapacity10 c) = .cbw b ∧ b.length = c.pad.length + 25
  | .read10 c => ∃ b, encode (.read10 c) = .cbw b ∧ b.length = c.pad.length + 25
  | .other o c => ∃ b, encode (.other o c) = .cbw b ∧ b.length = c.pad.length + 25
  | .devChirpK h d => ∃ w, encode (.devChirpK h d) = .arbIn w ∧ hostSide w = h ∧ deviceSide w = d
  | .devChirpJ h d => ∃ w, encode (.devChirpJ h d) = .arbIn w ∧ hostSide w = h ∧ deviceSide w = d
  | .hostChirp h d => ∃ w, encode (.hostChirp h d) = .arbIn w ∧ hostSide w = h ∧ deviceSide w = d
  | .hostReset h d => ∃ w, encode (.hostReset h d) = .arbIn w ∧ hostSide w = h ∧ deviceSide w = d
  | .packet h d => ∃ w, encode (.packet h d) = .arbIn w ∧ hostSide w = h ∧ deviceSide w = d
  | .idle h d => ∃ w, encode (.idle h d) = .arbIn w ∧ hostSide w = h ∧ deviceSide w = d
  | .reservedOpmode h d => ∃ w, encode (.reservedOpmode h d) = .arbIn w ∧ hostSide w = h ∧ deviceSide w = d

theorem EncodingShape.badSignature (s : Word32) (o : Byte) (c : CbwFields) :
    EncodingShape.Statement (.badSignature s o c) := ⟨_, rfl, length_encodeCbw _ _ _⟩

theorem EncodingShape.testUnitReady (c : CbwFields) :
    EncodingShape.Statement (.testUnitReady c) := ⟨_, rfl, length_encodeCbw _ _ _⟩

theorem EncodingShape.readCapacity10 (c : CbwFields) :
    EncodingShape.Statement (.readCapacity10 c) := ⟨_, rfl, length_encodeCbw _ _ _⟩

theorem EncodingShape.read10 (c : CbwFields) :
    EncodingShape.Statement (.read10 c) := ⟨_, rfl, length_encodeCbw _ _ _⟩

theorem EncodingShape.other (o : Byte) (c : CbwFields) :
    EncodingShape.Statement (.other o c) := ⟨_, rfl, length_encodeCbw _ _ _⟩

theorem EncodingShape.devChirpK (h d : SideIn) :
    EncodingShape.Statement (.devChirpK h d) := ⟨_, rfl, hostSide_encodeArb h d, deviceSide_encodeArb h d⟩

theorem EncodingShape.devChirpJ (h d : SideIn) :
    EncodingShape.Statement (.devChirpJ h d) := ⟨_, rfl, hostSide_encodeArb h d, deviceSide_encodeArb h d⟩

theorem EncodingShape.hostChirp (h d : SideIn) :
    EncodingShape.Statement (.hostChirp h d) := ⟨_, rfl, hostSide_encodeArb h d, deviceSide_encodeArb h d⟩

theorem EncodingShape.hostReset (h d : SideIn) :
    EncodingShape.Statement (.hostReset h d) := ⟨_, rfl, hostSide_encodeArb h d, deviceSide_encodeArb h d⟩

theorem EncodingShape.packet (h d : SideIn) :
    EncodingShape.Statement (.packet h d) := ⟨_, rfl, hostSide_encodeArb h d, deviceSide_encodeArb h d⟩

theorem EncodingShape.idle (h d : SideIn) :
    EncodingShape.Statement (.idle h d) := ⟨_, rfl, hostSide_encodeArb h d, deviceSide_encodeArb h d⟩

theorem EncodingShape.reservedOpmode (h d : SideIn) :
    EncodingShape.Statement (.reservedOpmode h d) :=
  ⟨_, rfl, hostSide_encodeArb h d, deviceSide_encodeArb h d⟩

end Sys2Proof.Laws
end

