-- ==== Sys2Proof/Laws/Step.lean ====
section
/-!
SUPPORT. What one step can do, said once: the arbitration's outcome, and then what BOT's edge can do.
-/

namespace Sys2Proof.Machine

/-! ### The arbitration of one cycle (40_link_arbiter.md R127, R132) -/

/-- The line state and the report of R127, within the interface contract. -/
def arbitrate (requiresTxValid : Bool) (h d : SideIn) : LineState × ArbCase :=
  if chirpTx d then (kj d.txData, if d.txData = 0 then .devChirpK else .devChirpJ)
  else if chirpTx h then (kj h.txData, .hostChirp)
  else if hostResetDriven requiresTxValid h then (.se0, .hostReset)
  else if h.txValid || d.txValid then (.se0, .packet)
  else (.j, .idle)

theorem contract_iff (x : SideIn) : x.contract = true ↔ x.opMode ≠ .reserved := by
  simp [SideIn.contract]

/-- R131. -/
theorem arbitrate_ne_se1 (r : Bool) (h d : SideIn) : (arbitrate r h d).1 ≠ .se1 := by
  unfold arbitrate kj
  split_ifs <;> simp

/-- Within the contract the arbitration completes as R127 says. -/
theorem exec_decodeArb (r : Bool) (h d : SideIn) (s : State) (hh : h.contract = true)
    (hd : d.contract = true) :
    exec (decodeArb r h d) s = .next (s.arbCycle h d (arbitrate r h d).1 (arbitrate r h d).2) := by
  rw [contract_iff] at hh hd
  unfold decodeArb arbitrate
  rw [if_neg (by simp [hh, hd])]
  by_cases h1 : chirpTx d = true
  · rw [if_pos h1, if_pos h1]
    by_cases h2 : d.txData = 0
    · rw [if_pos h2, if_pos h2, kj, if_pos h2]; rfl
    · rw [if_neg h2, if_neg h2, kj, if_neg h2]; rfl
  · by_cases h2 : chirpTx h = true
    · simp [h1, h2, exec, execHostChirp]
    · by_cases h3 : hostResetDriven r h = true
      · simp [h1, h2, h3, exec, execHostReset]
      · by_cases h4 : (h.txValid || d.txValid) = true
        · simp only [h1, h2, h3, h4, exec, execPacket]; simp
        · simp only [h1, h2, h3, h4, exec, execIdle]; simp

/-- Outside the contract it is refused (R132). -/
theorem exec_decodeArb_reserved (r : Bool) (h d : SideIn) (s : State)
    (hc : ¬ (h.contract = true ∧ d.contract = true)) :
    exec (decodeArb r h d) s = .refused .reservedOpMode := by
  have : h.opMode = .reserved ∨ d.opMode = .reserved := by
    rw [contract_iff, contract_iff] at hc
    tauto
  unfold decodeArb
  rw [if_pos this]
  rfl

/-- R102, R124: the report is HOST_RESET exactly when the decoded case is. -/
theorem isHostReset_decodeArb (r : Bool) (h d : SideIn) (hh : h.contract = true) (hd : d.contract = true) :
    isHostReset (decodeArb r h d) = true ↔ (arbitrate r h d).2 = .hostReset := by
  rw [contract_iff] at hh hd
  unfold decodeArb arbitrate
  rw [if_neg (by simp [hh, hd])]
  split_ifs <;> simp [isHostReset]

/-! ### The step -/

/-- The state BOT's edge works on: ARB's cycle is done, and this cycle's BOT ports are logged. -/
def State.arbDone (s : State) : State :=
  ((if s.pins.arbRst then
      (s.arbCycle s.pins.h (s.deviceIn s.pins)
        (arbitrate s.cfg.resetRequiresTxValid s.pins.h (s.deviceIn s.pins)).1
        (arbitrate s.cfg.resetRequiresTxValid s.pins.h (s.deviceIn s.pins)).2).resetArb
    else
      s.arbCycle s.pins.h (s.deviceIn s.pins)
        (arbitrate s.cfg.resetRequiresTxValid s.pins.h (s.deviceIn s.pins)).1
        (arbitrate s.cfg.resetRequiresTxValid s.pins.h (s.deviceIn s.pins)).2)).logBot
    ⟨s.botIn s.pins, s.botOut⟩

section ArbDone
variable (s : State)

@[simp] theorem State.arbDone_cfg : s.arbDone.cfg = s.cfg := by unfold State.arbDone; split <;> rfl
@[simp] theorem State.arbDone_cntHd :
    s.arbDone.cntHd = if s.pins.arbRst then 0 else relayCount s.cfg.pPreamble s.cntHd s.pins.h := by
  unfold State.arbDone; split <;> rfl
@[simp] theorem State.arbDone_cntDh :
    s.arbDone.cntDh =
      if s.pins.arbRst then 0 else relayCount s.cfg.pPreamble s.cntDh (s.deviceIn s.pins) := by
  unfold State.arbDone; split <;> rfl
@[simp] theorem State.arbDone_st : s.arbDone.st = s.st := by unfold State.arbDone; split <;> rfl
@[simp] theorem State.arbDone_rxOff : s.arbDone.rxOff = s.rxOff := by unfold State.arbDone; split <;> rfl
@[simp] theorem State.arbDone_txCur : s.arbDone.txCur = s.txCur := by unfold State.arbDone; split <;> rfl
@[simp] theorem State.arbDone_ready : s.arbDone.ready = s.ready := by unfold State.arbDone; split <;> rfl
@[simp] theorem State.arbDone_polls : s.arbDone.polls = s.polls := by unfold State.arbDone; split <;> rfl
@[simp] theorem State.arbDone_fail : s.arbDone.fail = s.fail := by unfold State.arbDone; split <;> rfl
@[simp] theorem State.arbDone_cbw : s.arbDone.cbw = s.cbw := by unfold State.arbDone; split <;> rfl
@[simp] theorem State.arbDone_trace : s.arbDone.trace = s.trace := by unfold State.arbDone; split <;> rfl
@[simp] theorem State.arbDone_arbLog :
    s.arbDone.arbLog =
      s.arbPorts s.pins.h (s.deviceIn s.pins)
        (arbitrate s.cfg.resetRequiresTxValid s.pins.h (s.deviceIn s.pins)).1
        (arbitrate s.cfg.resetRequiresTxValid s.pins.h (s.deviceIn s.pins)).2 :: s.arbLog := by
  unfold State.arbDone; split <;> rfl
@[simp] theorem State.arbDone_botLog :
    s.arbDone.botLog = ⟨s.botIn s.pins, s.botOut⟩ :: s.botLog := by unfold State.arbDone; split <;> rfl
@[simp] theorem State.arbDone_script : s.arbDone.script = s.script := by unfold State.arbDone; split <;> rfl
@[simp] theorem State.arbDone_draws : s.arbDone.draws = s.draws := by unfold State.arbDone; split <;> rfl
@[simp] theorem State.arbDone_recLen : s.arbDone.recLen = s.recLen := by simp [State.recLen]
@[simp] theorem State.arbDone_status : s.arbDone.status = s.status := by simp [State.status]

end ArbDone

/-- Within the contract a step is ARB's cycle and then BOT's edge. -/
theorem step_inContract {s : State} (hc : s.InContract) :
    step s =
      match botEdge (s.botIn s.pins) s.arbDone with
      | .next u => .next u.endCycle
      | .fault r => .fault r
      | .refused r => .refused r := by
  obtain ⟨hv, hh, hd⟩ := hc
  have he := exec_decodeArb s.cfg.resetRequiresTxValid s.pins.h (s.deviceIn s.pins) s hh hd
  unfold step cycle arbEdge State.arbInstr
  rw [if_pos hv, he]
  rfl

/-- Outside the contract a step is refused (R249). -/
theorem step_outOfContract {s : State} (hc : ¬ s.InContract) :
    step s = .refused .badConfig ∨ step s = .refused .reservedOpMode := by
  unfold step cycle
  by_cases hv : configValid s.cfg = true
  · right
    have : ¬ (s.pins.h.contract = true ∧ (s.deviceIn s.pins).contract = true) := fun h => hc ⟨hv, h⟩
    rw [if_pos hv, arbEdge, State.arbInstr, exec_decodeArb_reserved _ _ _ _ this]
  · left
    rw [if_neg hv]

/-- Everything a completed step did: it was within the contract, and BOT moved by one of its rules. -/
theorem step_next {s t : State} (h : step s = .next t) :
    s.InContract ∧ ∃ u, BotMove (s.botIn s.pins) s.arbDone u ∧ t = u.endCycle := by
  by_cases hc : s.InContract
  · refine ⟨hc, ?_⟩
    rw [step_inContract hc] at h
    rcases hb : botEdge (s.botIn s.pins) s.arbDone with u | r | r <;> rw [hb] at h
    · cases h
      exact ⟨u, botEdge_move hb, rfl⟩
    · cases h
    · cases h
  · rcases step_outOfContract hc with h' | h' <;> rw [h'] at h <;> cases h

/-- A step within the contract, in a state whose buffer is a CBW record, completes (R240). -/
theorem step_completes {s : State} (hc : s.InContract) (hl : s.cbw.length = 25 ∨ s.cbw.length = 31) :
    s.Safe := by
  unfold State.Safe
  rw [step_inContract hc]
  have : ∃ u, botEdge (s.botIn s.pins) s.arbDone = .next u := by
    unfold botEdge
    split
    · exact ⟨_, rfl⟩
    · split
      · exact ⟨_, rfl⟩
      · obtain ⟨u, hu, _⟩ := exec_command s.arbDone
        refine ⟨u, ?_⟩
        unfold processCbw decodeCbw
        rw [if_pos (by simpa using hl)]
        exact hu
      · exact ⟨_, rfl⟩
      · exact ⟨_, rfl⟩
      · exact ⟨_, rfl⟩
  obtain ⟨u, hu⟩ := this
  exact ⟨_, by rw [hu]⟩

/-! ### Runs -/

@[simp] theorem runCycles_zero (s : State) : runCycles 0 s = .next s := rfl

theorem runCycles_succ {s t : State} (n : Nat) (h : step s = .next t) :
    runCycles (n + 1) s = runCycles n t := by
  simp only [runCycles, h]

/-- A run is a run of its first cycles and then of the others. -/
theorem runCycles_add {s t : State} (m n : Nat) (h : runCycles m s = .next t) :
    runCycles (m + n) s = runCycles n t := by
  induction m generalizing s with
  | zero => cases h; rw [Nat.zero_add]
  | succ m ih =>
    rw [Nat.add_right_comm]
    simp only [runCycles] at h ⊢
    rcases hs : step s with u | r | r <;> rw [hs] at h
    · exact ih h
    · cases h
    · cases h

theorem host_run_next {M : Host.Core} {s t : M.State} (n : Nat) (h : M.step s = .next t) :
    M.run (n + 1) s = M.run n t := by
  simp only [Host.Core.run, h]

theorem host_run_fault {M : Host.Core} {s : M.State} {r : M.Fault} (n : Nat) (h : M.step s = .fault r) :
    M.run (n + 1) s = .fault r := by
  simp only [Host.Core.run, h]

theorem host_run_refused {M : Host.Core} {s : M.State} {r : M.Refusal} (n : Nat)
    (h : M.step s = .refused r) : M.run (n + 1) s = .refused r := by
  simp only [Host.Core.run, h]

/-- The host's run of the machine is the model's. -/
theorem core_run_eq (n : Nat) (s : State) : Sys2Proof.core.run n s = runCycles n s := by
  induction n generalizing s with
  | zero => rfl
  | succ n ih =>
    rw [runCycles]
    rcases hs : step s with t | r | r
    · exact (host_run_next (M := Sys2Proof.core) n hs).trans (ih t)
    · exact host_run_fault (M := Sys2Proof.core) n hs
    · exact host_run_refused (M := Sys2Proof.core) n hs

/-- R249: the configuration of a state in the contract has a buffer length of R8's choice. -/
theorem configValid_cbwLen {cfg : Config} (h : configValid cfg = true) : cfg.cbwLen = 25 ∨ cfg.cbwLen = 31 := by
  simp [configValid] at h
  exact h.2

end Sys2Proof.Machine
end

