-- ==== Sys2Proof/Tests/Slice0.lean ====
section
/-!
SUPPORT. Tests: expected results are those of 95_test_vectors.md (A, B, C, D, E, O, T, X and W rows) and of
the rules named. The witnesses at the end show states and operands that meet the hypotheses of the
statements in Obligations.lean.
-/

namespace Sys2Proof.Tests

open Sys2Proof.Machine Sys2Proof.Claims

/-! ### Records of 95_test_vectors.md section 0 -/

/-- A CDB10 with only an LBA, and with R108's filling of the fields no rule reads. -/
def cdb (lba : Word32) (xlen : Half) : CdbFields := ⟨0, lba, 0, xlen, 0⟩

/-- CBW fields with R108's filling. -/
def fields (tag dtl : Word32) (flags : Byte) (lba : Word32) (xlen : Half) : CbwFields :=
  ⟨tag, dtl, flags, 0, 0x0A, cdb lba xlen, [0, 0, 0, 0, 0, 0]⟩

/-- `TUR tag=0x11` -/
def recTur : List Byte :=
  [0x55, 0x53, 0x42, 0x43, 0x11, 0x00, 0x00, 0x00, 0x00, 0x00, 0x00, 0x00, 0x00, 0x00, 0x0A, 0x00, 0x00, 0x00,
    0x00, 0x00, 0x00, 0x00, 0x00, 0x00, 0x00, 0x00, 0x00, 0x00, 0x00, 0x00, 0x00]

/-- `RDCAP tag=0x14` -/
def recRdcap : List Byte :=
  [0x55, 0x53, 0x42, 0x43, 0x14, 0x00, 0x00, 0x00, 0x08, 0x00, 0x00, 0x00, 0x80, 0x00, 0x0A, 0x25, 0x00, 0x00,
    0x00, 0x00, 0x00, 0x00, 0x00, 0x00, 0x00, 0x00, 0x00, 0x00, 0x00, 0x00, 0x00]

/-- `READ10 tag=0x21 lba=42` -/
def recRead : List Byte :=
  [0x55, 0x53, 0x42, 0x43, 0x21, 0x00, 0x00, 0x00, 0x00, 0x02, 0x00, 0x00, 0x80, 0x00, 0x0A, 0x28, 0x00, 0x00,
    0x00, 0x00, 0x2A, 0x00, 0x00, 0x01, 0x00, 0x00, 0x00, 0x00, 0x00, 0x00, 0x00]

/-- `CMD tag=0x33 op=0x12` -/
def recInquiry : List Byte :=
  [0x55, 0x53, 0x42, 0x43, 0x33, 0x00, 0x00, 0x00, 0x00, 0x00, 0x00, 0x00, 0x00, 0x00, 0x0A, 0x12, 0x00, 0x00,
    0x00, 0x00, 0x00, 0x00, 0x00, 0x00, 0x00, 0x00, 0x00, 0x00, 0x00, 0x00, 0x00]

/-- `BADSIG tag=0x31 op=0x00` -/
def recBadSig : List Byte :=
  [0x00, 0x53, 0x42, 0x43, 0x31, 0x00, 0x00, 0x00, 0x00, 0x00, 0x00, 0x00, 0x00, 0x00, 0x0A, 0x00, 0x00, 0x00,
    0x00, 0x00, 0x00, 0x00, 0x00, 0x00, 0x00, 0x00, 0x00, 0x00, 0x00, 0x00, 0x00]

/-! ### WellFormed: an ill-formed term for each check, refused -/

theorem test_wf_accepts :
    (Instr.testUnitReady (fields 0x11 0 0 0 0)).wf Config.standard = true ∧
    (Instr.testUnitReady { fields 0x11 0 0 0 0 with pad := [] }).wf { Config.standard with cbwLen := 25 } = true ∧
    (Instr.idle ⟨.normal, false, 0⟩ ⟨.normal, false, 0⟩).wf Config.standard = true := by decide

theorem test_wf_refuses_magic_signature :
    (Instr.badSignature 0x43425355 0 (fields 0x11 0 0 0 0)).wf Config.standard = false := by decide

theorem test_wf_refuses_short_padding :
    (Instr.testUnitReady { fields 0x11 0 0 0 0 with pad := [] }).wf Config.standard = false ∧
    (Instr.badSignature 0 0 { fields 0x11 0 0 0 0 with pad := [] }).wf Config.standard = false ∧
    (Instr.readCapacity10 { fields 0x11 0 0 0 0 with pad := [] }).wf Config.standard = false ∧
    (Instr.read10 { fields 0x11 0 0 0 0 with pad := [] }).wf Config.standard = false ∧
    (Instr.other 0x12 { fields 0x11 0 0 0 0 with pad := [] }).wf Config.standard = false := by decide

theorem test_wf_refuses_cbw_len_28 :
    (Instr.testUnitReady { fields 0x11 0 0 0 0 with pad := [0, 0, 0] }).wf
      { Config.standard with cbwLen := 28 } = false := by decide

theorem test_wf_refuses_recognised_opcode_as_other :
    (Instr.other 0x00 (fields 0x11 0 0 0 0)).wf Config.standard = false ∧
    (Instr.other 0x25 (fields 0x11 0 0 0 0)).wf Config.standard = false ∧
    (Instr.other 0x28 (fields 0x11 0 0 0 0)).wf Config.standard = false := by decide

theorem test_wf_refuses_dev_chirp_k :
    (Instr.devChirpK ⟨.normal, false, 0⟩ ⟨.chirp, true, 1⟩).wf Config.standard = false ∧
    (Instr.devChirpK ⟨.normal, false, 0⟩ ⟨.chirp, false, 0⟩).wf Config.standard = false ∧
    (Instr.devChirpK ⟨.normal, false, 0⟩ ⟨.normal, true, 0⟩).wf Config.standard = false ∧
    (Instr.devChirpK ⟨.reserved, false, 0⟩ ⟨.chirp, true, 0⟩).wf Config.standard = false := by decide

theorem test_wf_refuses_dev_chirp_j :
    (Instr.devChirpJ ⟨.normal, false, 0⟩ ⟨.chirp, true, 0⟩).wf Config.standard = false ∧
    (Instr.devChirpJ ⟨.normal, false, 0⟩ ⟨.chirp, false, 1⟩).wf Config.standard = false ∧
    (Instr.devChirpJ ⟨.reserved, false, 0⟩ ⟨.chirp, true, 1⟩).wf Config.standard = false := by decide

theorem test_wf_refuses_host_chirp :
    (Instr.hostChirp ⟨.chirp, false, 0⟩ ⟨.normal, false, 0⟩).wf Config.standard = false ∧
    (Instr.hostChirp ⟨.chirp, true, 0⟩ ⟨.chirp, true, 0⟩).wf Config.standard = false ∧
    (Instr.hostChirp ⟨.chirp, true, 0⟩ ⟨.reserved, false, 0⟩).wf Config.standard = false := by decide

theorem test_wf_refuses_host_reset :
    (Instr.hostReset ⟨.normal, true, 0⟩ ⟨.normal, false, 0⟩).wf Config.standard = false ∧
    (Instr.hostReset ⟨.rawDrive, false, 0⟩ ⟨.chirp, true, 0⟩).wf Config.standard = false ∧
    (Instr.hostReset ⟨.rawDrive, false, 0⟩ ⟨.normal, false, 0⟩).wf
      { Config.standard with resetRequiresTxValid := true } = false := by decide

theorem test_wf_refuses_packet :
    (Instr.packet ⟨.normal, false, 0⟩ ⟨.normal, false, 0⟩).wf Config.standard = false ∧
    (Instr.packet ⟨.rawDrive, false, 0⟩ ⟨.normal, true, 0⟩).wf Config.standard = false ∧
    (Instr.packet ⟨.chirp, true, 0⟩ ⟨.normal, true, 0⟩).wf Config.standard = false ∧
    (Instr.packet ⟨.normal, true, 0⟩ ⟨.chirp, true, 0⟩).wf Config.standard = false ∧
    (Instr.packet ⟨.reserved, true, 0⟩ ⟨.normal, false, 0⟩).wf Config.standard = false := by decide

theorem test_wf_refuses_idle :
    (Instr.idle ⟨.normal, true, 0⟩ ⟨.normal, false, 0⟩).wf Config.standard = false ∧
    (Instr.idle ⟨.normal, false, 0⟩ ⟨.rawDrive, true, 0⟩).wf Config.standard = false ∧
    (Instr.idle ⟨.rawDrive, false, 0⟩ ⟨.normal, false, 0⟩).wf Config.standard = false ∧
    (Instr.idle ⟨.normal, false, 0⟩ ⟨.reserved, false, 0⟩).wf Config.standard = false := by decide

theorem test_wf_refuses_reserved_opmode :
    (Instr.reservedOpmode ⟨.normal, true, 0⟩ ⟨.chirp, true, 0⟩).wf Config.standard = false := by decide

/-! ### Decode: one written-out word per constructor -/

theorem test_decode_bad_signature :
    decode Config.standard (.cbw recBadSig) = .ok (.badSignature 0x43425300 0x00 (fields 0x31 0 0 0 0)) := by
  decide

theorem test_decode_test_unit_ready :
    decode Config.standard (.cbw recTur) = .ok (.testUnitReady (fields 0x11 0 0 0 0)) := by decide

theorem test_decode_read_capacity :
    decode Config.standard (.cbw recRdcap) = .ok (.readCapacity10 (fields 0x14 8 0x80 0 0)) := by decide

theorem test_decode_read_10 :
    decode Config.standard (.cbw recRead) = .ok (.read10 (fields 0x21 512 0x80 42 1)) := by decide

theorem test_decode_other :
    decode Config.standard (.cbw recInquiry) = .ok (.other 0x12 (fields 0x33 0 0 0 0)) := by decide

/-- A record in which every byte differs, so that each field is seen to be read from its own place. -/
theorem test_decode_every_field :
    decode Config.standard (.cbw [0x55, 0x53, 0x42, 0x43, 4, 5, 6, 7, 8, 9, 10, 11, 12, 13, 14, 0x2A, 16, 17, 18,
      19, 20, 21, 22, 23, 24, 25, 26, 27, 28, 29, 30]) =
    .ok (.other 0x2A ⟨0x07060504, 0x0B0A0908, 12, 13, 14, ⟨16, 0x11121314, 21, 0x1617, 24⟩,
      [25, 26, 27, 28, 29, 30]⟩) := by decide

/-- B5 to B7: a CSW signature, a big-endian magic and one wrong byte are no CBW signature. -/
theorem test_decode_near_magic :
    recordSignature [0x55, 0x53, 0x42, 0x53] ≠ cbwMagic ∧ recordSignature [0x43, 0x42, 0x53, 0x55] ≠ cbwMagic ∧
    recordSignature [0x55, 0x53, 0x42, 0x42] ≠ cbwMagic := by decide

/- The words of ARB's inputs, host data, valid and mode and then the device's (assumption 7). -/
theorem test_decode_dev_chirp_k :
    decode Config.standard (.arbIn 0b00000000_0_10_00000000_1_01) =
      .ok (.devChirpK ⟨.rawDrive, false, 0⟩ ⟨.chirp, true, 0⟩) := by decide

theorem test_decode_dev_chirp_j :
    decode Config.standard (.arbIn 0b00000000_1_01_11111111_1_01) =
      .ok (.devChirpJ ⟨.chirp, true, 0⟩ ⟨.chirp, true, 0xFF⟩) := by decide

theorem test_decode_host_chirp :
    decode Config.standard (.arbIn 0b00000000_1_01_01010101_1_00) =
      .ok (.hostChirp ⟨.chirp, true, 0⟩ ⟨.normal, true, 0x55⟩) := by decide

theorem test_decode_host_reset :
    decode Config.standard (.arbIn 0b00000000_0_10_00000000_1_00) =
      .ok (.hostReset ⟨.rawDrive, false, 0⟩ ⟨.normal, true, 0⟩) := by decide

theorem test_decode_packet :
    decode Config.standard (.arbIn 0b00000000_0_01_10101010_1_10) =
      .ok (.packet ⟨.chirp, false, 0⟩ ⟨.rawDrive, true, 0xAA⟩) := by decide

theorem test_decode_idle :
    decode Config.standard (.arbIn 0b00000000_0_00_00000000_0_10) =
      .ok (.idle ⟨.normal, false, 0⟩ ⟨.rawDrive, false, 0⟩) := by decide

theorem test_decode_reserved_opmode :
    decode Config.standard (.arbIn 0b00000000_0_00_00000000_1_11) =
      .ok (.reservedOpmode ⟨.normal, false, 0⟩ ⟨.reserved, true, 0⟩) := by decide

/-- The opcode table's own words (assumption 8). -/
theorem test_decode_table_words :
    decodeTableWord 8 0x25 =
      some (.readCapacity10 ⟨0, 0, 0, 0, 0, ⟨0, 0, 0, 0, 0⟩, [0, 0, 0, 0, 0, 0]⟩) ∧
    decodeTableWord 32 0x43425353 =
      some (.badSignature 0x43425353 0 ⟨0, 0, 0, 0, 0, ⟨0, 0, 0, 0, 0⟩, [0, 0, 0, 0, 0, 0]⟩) ∧
    decodeTableWord 24 0b1_00_00000000_0_00 = some (.packet ⟨.normal, true, 0⟩ ⟨.normal, false, 0⟩) := by decide

/-! ### One step -/

/-- A reset machine with the given pins in the next cycle. -/
def fresh (p : Pins) : State := { State.reset with script := [p] }

/-- Quiet pins with the given sides. -/
def bus (h d : SideIn) : Pins := { Pins.quiet with h := h, d := d }

/-- Quiet pins with a byte offered to BOT. -/
def offer (b : Byte) : Pins := { Pins.quiet with rxValid := true, rxData := b }

/-- Quiet pins with BOT's transmit endpoint ready. -/
def take : Pins := { Pins.quiet with txReady := true }

/-- A machine in PROCESS_CBW with the given record, poll counter and latch. -/
def processing (rec : List Byte) (polls : Nat) (ready : Bool) : State :=
  { fresh Pins.quiet with st := .processCbw, cbw := rec, polls := polls, ready := ready }

/-- BOT's state as 95_test_vectors.md writes it. -/
structure BotView where
  st : BotState
  rxOff : Nat
  txCur : Nat
  polls : Nat
  ready : Bool
  fail : Bool
deriving DecidableEq, Repr

/-- BOT's state after a step. -/
def bot (o : Host.Outcome State Fault Refusal) : Option BotView :=
  match o with
  | .next t => some ⟨t.st, t.rxOff, t.txCur, t.polls, t.ready, t.fail⟩
  | .fault _ => none
  | .refused _ => none

/-- Both sides' line state and the case a cycle reports, as codes. -/
def arb (cfg : Config) (h d : SideIn) : Option (BitVec 2 × BitVec 2 × BitVec 3) :=
  match step { State.construct cfg with script := [bus h d] } with
  | .next t => t.arbLog.head?.map fun r => (r.hOut.lineState.code, r.dOut.lineState.code, r.arbCase.code)
  | .fault _ => none
  | .refused _ => none

/-- The refusal a step ends in. -/
def refusal (o : Host.Outcome State Fault Refusal) : Option Refusal :=
  match o with
  | .next _ => none
  | .fault _ => none
  | .refused r => some r

/-- The trace after a step. -/
def traced (o : Host.Outcome State Fault Refusal) : Option (List TraceEvent) :=
  match o with
  | .next t => some t.trace
  | .fault _ => none
  | .refused _ => none

/-- Rows A2, A6. -/
theorem test_step_dev_chirp_k :
    arb Config.standard ⟨.normal, false, 0xAA⟩ ⟨.chirp, true, 0⟩ = some (0b10, 0b10, 1) ∧
    arb Config.standard ⟨.rawDrive, false, 0xAA⟩ ⟨.chirp, true, 0⟩ = some (0b10, 0b10, 1) := by decide

/-- Rows A3, A4, A5. -/
theorem test_step_dev_chirp_j :
    arb Config.standard ⟨.normal, false, 0xAA⟩ ⟨.chirp, true, 1⟩ = some (0b01, 0b01, 2) ∧
    arb Config.standard ⟨.normal, false, 0xAA⟩ ⟨.chirp, true, 0x80⟩ = some (0b01, 0b01, 2) ∧
    arb Config.standard ⟨.chirp, true, 0⟩ ⟨.chirp, true, 0xFF⟩ = some (0b01, 0b01, 2) := by decide

/-- Rows A7 to A10. -/
theorem test_step_host_chirp :
    arb Config.standard ⟨.chirp, true, 0⟩ ⟨.normal, false, 0xAA⟩ = some (0b10, 0b10, 3) ∧
    arb Config.standard ⟨.chirp, true, 0xFF⟩ ⟨.normal, false, 0xAA⟩ = some (0b01, 0b01, 3) ∧
    arb Config.standard ⟨.chirp, true, 0⟩ ⟨.chirp, false, 0xAA⟩ = some (0b10, 0b10, 3) ∧
    arb Config.standard ⟨.chirp, true, 0⟩ ⟨.normal, true, 0x55⟩ = some (0b10, 0b10, 3) := by decide

/-- Rows A11, A12, A22, A23. -/
theorem test_step_host_reset :
    arb Config.standard ⟨.rawDrive, false, 0xAA⟩ ⟨.normal, false, 0xAA⟩ = some (0b00, 0b00, 4) ∧
    arb Config.standard ⟨.rawDrive, true, 0⟩ ⟨.normal, true, 0⟩ = some (0b00, 0b00, 4) ∧
    arb { Config.standard with resetRequiresTxValid := true } ⟨.rawDrive, false, 0xAA⟩ ⟨.normal, false, 0xAA⟩ =
      some (0b01, 0b01, 0) ∧
    arb { Config.standard with resetRequiresTxValid := true } ⟨.rawDrive, true, 0⟩ ⟨.normal, false, 0xAA⟩ =
      some (0b00, 0b00, 4) := by decide

/-- Rows A13 to A16, A19, A24. -/
theorem test_step_packet :
    arb Config.standard ⟨.normal, true, 0x55⟩ ⟨.normal, false, 0xAA⟩ = some (0b00, 0b00, 5) ∧
    arb Config.standard ⟨.normal, false, 0xAA⟩ ⟨.normal, true, 0⟩ = some (0b00, 0b00, 5) ∧
    arb Config.standard ⟨.normal, true, 0x12⟩ ⟨.normal, true, 0x34⟩ = some (0b00, 0b00, 5) ∧
    arb Config.standard ⟨.normal, false, 0xAA⟩ ⟨.rawDrive, true, 0⟩ = some (0b00, 0b00, 5) ∧
    arb Config.standard ⟨.chirp, false, 0xAA⟩ ⟨.rawDrive, true, 0xAA⟩ = some (0b00, 0b00, 5) ∧
    arb { Config.standard with resetRequiresTxValid := true } ⟨.rawDrive, false, 0xAA⟩ ⟨.normal, true, 0⟩ =
      some (0b00, 0b00, 5) := by decide

/-- Rows A1, A17, A18. -/
theorem test_step_idle :
    arb Config.standard ⟨.normal, false, 0xAA⟩ ⟨.normal, false, 0xAA⟩ = some (0b01, 0b01, 0) ∧
    arb Config.standard ⟨.normal, false, 0xAA⟩ ⟨.rawDrive, false, 0xAA⟩ = some (0b01, 0b01, 0) ∧
    arb Config.standard ⟨.chirp, false, 0xAA⟩ ⟨.chirp, false, 0xAA⟩ = some (0b01, 0b01, 0) := by decide

/-- Rows A20, A21. -/
theorem test_step_reserved_opmode :
    refusal (step (fresh (bus ⟨.reserved, true, 0⟩ ⟨.chirp, true, 0⟩))) = some .reservedOpMode ∧
    refusal (step (fresh (bus ⟨.chirp, true, 0⟩ ⟨.reserved, false, 0⟩))) = some .reservedOpMode := by decide

/-- Rows T1 and T2. -/
theorem test_step_test_unit_ready_fails :
    bot (step (processing recTur 0 false)) = some ⟨.sendCsw, 0, 0, 1, false, true⟩ ∧
    bot (step (processing recTur 1 false)) = some ⟨.sendCsw, 0, 0, 2, false, true⟩ := by decide

/-- Rows T3 and T4, and the trace event of P1's third line. -/
theorem test_step_test_unit_ready_passes :
    bot (step (processing recTur 2 false)) = some ⟨.sendCsw, 0, 0, 2, true, false⟩ ∧
    bot (step (processing recTur 2 true)) = some ⟨.sendCsw, 0, 0, 2, true, false⟩ ∧
    traced (step (processing recTur 2 false)) = some [.opcode 0x00] := by decide

/-- Rows C1 and C2; after two polls the latch is not set yet (W2). -/
theorem test_step_read_capacity :
    bot (step (processing recRdcap 2 false)) = some ⟨.sendCsw, 0, 0, 2, false, true⟩ ∧
    bot (step (processing recRdcap 2 true)) = some ⟨.sendCapacity, 0, 0, 2, true, false⟩ ∧
    traced (step (processing recRdcap 2 true)) = some [.opcode 0x25] := by decide

/-- Rows D1 and D3. -/
theorem test_step_read_10 :
    bot (step (processing recRead 0 false)) = some ⟨.sendCsw, 0, 0, 0, false, true⟩ ∧
    bot (step (processing recRead 2 true)) = some ⟨.sendData, 0, 0, 2, true, false⟩ ∧
    traced (step (processing recRead 0 false)) = some [.opcode 0x28] := by decide

/-- Rows O1 and O3: acknowledged, with no readiness needed. -/
theorem test_step_other :
    bot (step (processing recInquiry 0 false)) = some ⟨.sendCsw, 0, 0, 0, false, false⟩ ∧
    bot (step (processing (recInquiry.set 15 0x2A) 0 false)) = some ⟨.sendCsw, 0, 0, 0, false, false⟩ ∧
    traced (step (processing recInquiry 0 false)) = some [.opcode 0x12] := by decide

/-- Rows B4 to B6: the discard, without a trace event. -/
theorem test_step_bad_signature :
    bot (step (processing recBadSig 1 false)) = some ⟨.recvCbw, 0, 0, 1, false, false⟩ ∧
    bot (step (processing (recTur.set 3 0x53) 1 false)) = some ⟨.recvCbw, 0, 0, 1, false, false⟩ ∧
    traced (step (processing recBadSig 1 false)) = some [] := by decide

/-! ### The transport around the commands -/

/-- Rows B1, B2. -/
theorem test_receive :
    bot (step (fresh (offer 0x55))) = some ⟨.recvCbw, 1, 0, 0, false, false⟩ ∧
    bot (step { fresh Pins.quiet with rxOff := 7 }) = some ⟨.recvCbw, 7, 0, 0, false, false⟩ := by decide

/-- Row B3, with the byte stored in the same cycle as the transition (R163). -/
theorem test_receive_last :
    bot (step { fresh (offer 0x5A) with rxOff := 30, cbw := recTur }) =
      some ⟨.processCbw, 0, 0, 0, false, false⟩ ∧
    (match step { fresh (offer 0x5A) with rxOff := 30, cbw := recTur } with
      | .next t => t.cbw == recTur.set 30 0x5A
      | .fault _ => false
      | .refused _ => false) = true := by decide

/-- Row B9: a byte offered in SEND_CSW is not stored. -/
theorem test_offered_outside_receive :
    (match step { fresh { offer 0xEE with txReady := true } with st := .sendCsw, txCur := 5, cbw := recTur } with
      | .next t => t.cbw == recTur && t.txCur == 6 && t.st == .sendCsw
      | .fault _ => false
      | .refused _ => false) = true := by decide

/-- Row E1: byte 4 of the CSW is the tag's first byte, and a stall keeps the cursor. -/
theorem test_stall :
    (match step { fresh Pins.quiet with st := .sendCsw, txCur := 4, cbw := recRead } with
      | .next t => t.txCur == 4 && t.botLog.head?.map (fun r => (r.out.txValid, r.out.txData, r.out.txLast)) ==
          some (true, 0x21, false)
      | .fault _ => false
      | .refused _ => false) = true := by decide

/-- Row E2: the final CSW byte, stalled and then taken. -/
theorem test_final_csw_byte :
    (match step { fresh Pins.quiet with st := .sendCsw, txCur := 12, fail := true, cbw := recRead } with
      | .next t => t.txCur == 12 && t.fail && t.trace == [] &&
          t.botLog.head?.map (fun r => (r.out.txData, r.out.txLast)) == some (0x01, true)
      | .fault _ => false
      | .refused _ => false) = true ∧
    bot (step { fresh take with st := .sendCsw, txCur := 12, fail := true, cbw := recRead }) =
      some ⟨.recvCbw, 0, 0, 0, false, false⟩ ∧
    traced (step { fresh take with st := .sendCsw, txCur := 12, fail := true, cbw := recRead }) =
      some [.cswStatus .failed] := by decide

/-- Rows C2 to C5: the capacity record. -/
theorem test_capacity_record :
    capRecord Config.standard = [0x00, 0x00, 0x03, 0xFF, 0x00, 0x00, 0x02, 0x00] ∧
    capRecord { Config.standard with blockCount := 1, blockSize := 1 } = [0, 0, 0, 0, 0, 0, 0, 1] ∧
    capRecord { Config.standard with blockCount := 2 ^ 32, blockSize := 4096 } =
      [0xFF, 0xFF, 0xFF, 0xFF, 0x00, 0x00, 0x10, 0x00] := by decide

/-- Row D3: bytes 0, 42, 255, 256, 297, 300 and 511 of the block at LBA 42. -/
theorem test_data_record :
    [0, 42, 255, 256, 297, 300, 511].map (processing recRead 2 true).dataRec =
      [0x2A, 0x00, 0xD5, 0x2A, 0x03, 0x06, 0xD5] := by decide

/-- Row C6, D31: configurations out of range. -/
theorem test_bad_config :
    refusal (step { State.construct { Config.standard with blockCount := 0 } with script := [Pins.quiet] }) =
      some .badConfig ∧
    refusal (step { State.construct { Config.standard with blockCount := 2 ^ 32 + 1 } with script := [Pins.quiet] }) =
      some .badConfig ∧
    refusal (step { State.construct { Config.standard with blockSize := 0 } with script := [Pins.quiet] }) =
      some .badConfig ∧
    refusal (step { State.construct { Config.standard with blockSize := 2 ^ 32 } with script := [Pins.quiet] }) =
      some .badConfig ∧
    refusal (step { State.construct { Config.standard with cbwLen := 30 } with script := [Pins.quiet] }) =
      some .badConfig := by decide

/-- Rows X1 and X2: a reset in the middle of a CBW and of a response. -/
theorem test_reset_edge :
    bot (step { fresh { Pins.quiet with botRst := true } with rxOff := 17, polls := 1 }) =
      some ⟨.recvCbw, 0, 0, 0, false, false⟩ ∧
    bot (step { fresh { take with botRst := true } with
        st := .sendData, txCur := 100, polls := 2, ready := true, cbw := recRead }) =
      some ⟨.recvCbw, 0, 0, 0, false, false⟩ := by decide

/-- Row X3: the bus reset is no reset of BOT, unless the configuration ties it (assumption 10). -/
theorem test_bus_reset :
    bot (step { fresh (bus ⟨.rawDrive, false, 0⟩ ⟨.normal, false, 0⟩) with polls := 2, ready := true }) =
      some ⟨.recvCbw, 0, 0, 2, true, false⟩ ∧
    bot (step { fresh (bus ⟨.rawDrive, false, 0⟩ ⟨.normal, false, 0⟩) with
        polls := 2, ready := true, cfg := { Config.standard with busResetResetsBot := true } }) =
      some ⟨.recvCbw, 0, 0, 0, false, false⟩ := by decide

/-- Rows W8, RL3, RL7, RL8: acceptance exactly at count 3, saturation, reset and the cycle after a streak. -/
theorem test_relay :
    (match step { fresh (bus ⟨.normal, true, 0xA0⟩ ⟨.normal, false, 0⟩) with cntHd := 2 } with
      | .next t => t.cntHd == 3 && t.arbLog.head?.map (fun r => (r.hOut.txReady, r.dOut.rxValid, r.dOut.rxActive))
          == some (false, false, true)
      | .fault _ => false
      | .refused _ => false) = true ∧
    (match step { fresh (bus ⟨.normal, true, 0xA0⟩ ⟨.normal, false, 0⟩) with cntHd := 3 } with
      | .next t => t.cntHd == 3 && t.arbLog.head?.map (fun r => (r.hOut.txReady, r.dOut.rxValid, r.dOut.rxData))
          == some (true, true, 0xA0)
      | .fault _ => false
      | .refused _ => false) = true ∧
    (match step { fresh (bus ⟨.normal, false, 0xA0⟩ ⟨.normal, false, 0⟩) with cntHd := 3 } with
      | .next t => t.cntHd == 0 && t.arbLog.head?.map (fun r => (r.hOut.txReady, r.dOut.rxValid))
          == some (false, false)
      | .fault _ => false
      | .refused _ => false) = true ∧
    (match step { fresh { bus ⟨.normal, true, 0xA0⟩ ⟨.normal, true, 0⟩ with arbRst := true } with
        cntHd := 2, cntDh := 2 } with
      | .next t => t.cntHd == 0 && t.cntDh == 0
      | .fault _ => false
      | .refused _ => false) = true := by decide

/-- Program P5, cycle 38: in the direct composition the CSW's first byte reaches the host. -/
theorem test_direct_composition :
    (match step { fresh Pins.quiet with
        cfg := { Config.standard with wiring := .direct }, st := .sendCsw, fail := true, cntDh := 3, cbw := recTur } with
      | .next t => t.txCur == 1 && t.arbLog.head?.map (fun r => (r.hOut.rxValid, r.hOut.rxData, r.arbCase.code))
          == some (true, 0x55, 5)
      | .fault _ => false
      | .refused _ => false) = true := by decide

/-- A word placed by `withFetchWord` is what the next step runs (assumptions 8, 12). -/
theorem test_with_fetch_word :
    bot (step (State.reset.withFetchWord 8 0x00)) = some ⟨.sendCsw, 0, 0, 1, false, true⟩ ∧
    bot (step (State.reset.withFetchWord 32 0x43425353)) = some ⟨.recvCbw, 0, 0, 0, false, false⟩ ∧
    refusal (step (State.reset.withFetchWord 22 0b00000000_0_00_00000000_0_11)) = some .reservedOpMode := by decide

/-! ### Witnesses: states and operands that meet the hypotheses of each statement -/

/-- A ready machine sending, with the given pins, state and cursor. -/
def sending (p : Pins) (st : BotState) (cur : Nat) : State :=
  { fresh p with st := st, txCur := cur, cbw := recRead, polls := 2, ready := true }

/-- A ready machine in the direct composition whose host holds `tx_valid` past the lead time. -/
def composed (st : BotState) : State :=
  { fresh (bus ⟨.normal, true, 0x55⟩ ⟨.normal, false, 0⟩) with
    cfg := { Config.standard with wiring := .direct }
    st := st
    cntHd := 3
    cbw := recTur }

theorem standard_valid : configValid Config.standard = true := by decide

theorem direct_valid : configValid { Config.standard with wiring := .direct } = true := by decide

theorem fresh_inv (p : Pins) : (fresh p).Inv := by
  constructor <;> simp [fresh, State.reset, State.construct, Config.standard, BotState.sends, freeBuffer]

theorem processing_inv : (processing recTur 0 false).Inv ∧ (processing recRead 2 true).Inv := by
  constructor <;> constructor <;> decide

theorem composed_inv : (composed .recvCbw).Inv ∧ (composed .sendCsw).Inv := by
  constructor <;> constructor <;> decide

theorem fresh_contract : (fresh Pins.quiet).InContract := ⟨by decide, by decide, by decide⟩

theorem witness_DecodeOfEncodedInstruction :
    (Instr.other 0xFF (fields 0xFFFFFFFF 0xFFFFFFFF 0xFF 0xFFFFFFFF 0xFFFF)).wf Config.standard = true ∧
    (Instr.hostReset ⟨.rawDrive, true, 0xFF⟩ ⟨.chirp, false, 0xFF⟩).wf Config.standard = true := by decide

theorem witness_EncodeOfDecodedWord :
    decode Config.standard (.cbw recTur) = .ok (.testUnitReady (fields 0x11 0 0 0 0)) ∧
    recTur.length = Config.standard.cbwLen := by decide

theorem witness_SignatureIsTestedBeforeTheOpcode :
    (recBadSig.length = 31 ∧ signed recBadSig = false) ∧
    ((recTur.take 25).length = 25 ∧ signed (recTur.take 25) = true ∧ byteAt (recTur.take 25) 15 = 0x00) ∧
    (signed recRdcap = true ∧ byteAt recRdcap 15 = 0x25) ∧
    (signed recRead = true ∧ byteAt recRead 15 = 0x28) ∧
    (signed recInquiry = true ∧ byteAt recInquiry 15 ≠ 0x00 ∧ byteAt recInquiry 15 ≠ 0x25 ∧
      byteAt recInquiry 15 ≠ 0x28) := by decide

theorem witness_OtherRecordLengthsAreRejected :
    ∀ n ∈ [0, 24, 26, 30, 32], (List.replicate n (0 : Byte)).length ≠ 25 ∧
      (List.replicate n (0 : Byte)).length ≠ 31 := by decide

theorem witness_DeviceChirpDecidesTheLineState :
    (⟨.chirp, true, 0⟩ : SideIn).opMode ≠ .reserved ∧
    [(⟨.chirp, true, 0⟩ : SideIn), ⟨.chirp, true, 1⟩, ⟨.chirp, true, 0xFF⟩].all
      (fun d => d.opMode = .chirp && d.txValid) = true := by decide

theorem witness_HostChirpDecidesTheLineState :
    ∃ h d : SideIn, d.opMode ≠ .reserved ∧ ¬ (d.opMode = .chirp ∧ d.txValid = true) ∧ h.opMode = .chirp ∧
      h.txValid = true := ⟨⟨.chirp, true, 0⟩, ⟨.chirp, false, 0⟩, by decide⟩

theorem witness_HostResetForcesSe0 :
    ∃ h d : SideIn, d.opMode ≠ .reserved ∧ ¬ (d.opMode = .chirp ∧ d.txValid = true) ∧ h.opMode = .rawDrive ∧
      (false = true → h.txValid = true) := ⟨⟨.rawDrive, false, 0⟩, ⟨.normal, true, 0⟩, by decide⟩

theorem witness_PacketForcesSe0 :
    ∃ h d : SideIn, h.opMode ≠ .reserved ∧ d.opMode ≠ .reserved ∧ ¬ (d.opMode = .chirp ∧ d.txValid = true) ∧
      ¬ (h.opMode = .chirp ∧ h.txValid = true) ∧
      ¬ (h.opMode = .rawDrive ∧ (true = true → h.txValid = true)) ∧ (h.txValid = true ∨ d.txValid = true) :=
  ⟨⟨.rawDrive, false, 0⟩, ⟨.rawDrive, true, 0⟩, by decide⟩

theorem witness_IdleBusShowsJ :
    ∃ h d : SideIn, h.opMode ≠ .reserved ∧ d.opMode ≠ .reserved ∧
      ¬ (h.opMode = .rawDrive ∧ (true = true → h.txValid = true)) ∧ h.txValid = false ∧ d.txValid = false :=
  ⟨⟨.rawDrive, false, 0⟩, ⟨.chirp, false, 0⟩, by decide⟩

theorem witness_ReservedOpModeRefusesTheStep :
    configValid Config.standard = true ∧
    (fresh (bus ⟨.reserved, false, 0⟩ ⟨.normal, false, 0⟩)).pins.h.opMode = .reserved ∧
    ((fresh (bus ⟨.normal, false, 0⟩ ⟨.reserved, false, 0⟩)).deviceIn
      (bus ⟨.normal, false, 0⟩ ⟨.reserved, false, 0⟩)).opMode = .reserved := by decide

/-- A completed step: the one hypothesis of EveryCycleFollowsThePriorityChain, BothSidesSeeOneLineState,
RelayOutputsInEveryCycle, EndpointOutputsInEveryCycle, ConfigurationNeverChanges and
ObservationsHaveNoFeedback, here in each of BOT's five states. -/
theorem witness_CompletedStep :
    (∃ t, step (fresh (offer 0x55)) = .next t) ∧ (∃ t, step (processing recTur 0 false) = .next t) ∧
    (∃ t, step (sending take .sendCapacity 7) = .next t) ∧ (∃ t, step (sending take .sendData 511) = .next t) ∧
    (∃ t, step (sending take .sendCsw 12) = .next t) :=
  ⟨⟨_, rfl⟩, ⟨_, rfl⟩, ⟨_, rfl⟩, ⟨_, rfl⟩, ⟨_, rfl⟩⟩

theorem witness_LeadTimeCountersInEveryCycle :
    ((fresh Pins.quiet).pins.arbRst = false ∧ ∃ t, step (fresh Pins.quiet) = .next t) ∧
    ((fresh { Pins.quiet with arbRst := true }).pins.arbRst = true ∧
      ∃ t, step (fresh { Pins.quiet with arbRst := true }) = .next t) :=
  ⟨⟨rfl, _, rfl⟩, ⟨rfl, _, rfl⟩⟩

theorem witness_ArbitrationCasesLeaveBotUnchanged :
    ∀ i ∈ [Instr.devChirpK ⟨.normal, false, 0⟩ ⟨.chirp, true, 0⟩, .devChirpJ ⟨.normal, false, 0⟩ ⟨.chirp, true, 1⟩,
      .hostChirp ⟨.chirp, true, 0⟩ ⟨.normal, false, 0⟩, .hostReset ⟨.rawDrive, false, 0⟩ ⟨.normal, false, 0⟩,
      .packet ⟨.normal, true, 0⟩ ⟨.normal, false, 0⟩, .idle ⟨.normal, false, 0⟩ ⟨.normal, false, 0⟩],
    ∃ t, exec i State.reset = .next t := by
  simp [exec, execDevChirpK, execDevChirpJ, execHostChirp, execHostReset, execPacket, execIdle]

/-- Also the lead time's boundary: the fourth cycle is the first that delivers. -/
theorem witness_HostStreakDelivery :
    ∃ (s : State) (streak : List Pins), configValid s.cfg = true ∧ s.cbw.length = s.cfg.cbwLen ∧ s.cntHd = 0 ∧
      s.script = streak ++ [] ∧ streak.length = 4 ∧
      ∀ p ∈ streak, p.arbRst = false ∧ p.h.txValid = true ∧ p.h.contract = true ∧ p.d.contract = true :=
  ⟨{ State.reset with script := List.replicate 4 (bus ⟨.normal, true, 0xA0⟩ ⟨.normal, false, 0⟩) },
    List.replicate 4 (bus ⟨.normal, true, 0xA0⟩ ⟨.normal, false, 0⟩), standard_valid, rfl, rfl, rfl, rfl, by decide⟩

theorem witness_DeviceStreakDelivery :
    ∃ (s : State) (streak : List Pins), configValid s.cfg = true ∧ s.cfg.wiring = .independent ∧
      s.cbw.length = s.cfg.cbwLen ∧ s.cntDh = 0 ∧ s.script = streak ++ [] ∧ streak.length = 4 ∧
      ∀ p ∈ streak, p.arbRst = false ∧ p.d.txValid = true ∧ p.h.contract = true ∧ p.d.contract = true :=
  ⟨{ State.reset with script := List.replicate 4 (bus ⟨.normal, false, 0⟩ ⟨.normal, true, 0xA0⟩) },
    List.replicate 4 (bus ⟨.normal, false, 0⟩ ⟨.normal, true, 0xA0⟩), standard_valid, rfl, rfl, rfl, rfl, rfl,
    by decide⟩

/-- At the first and at the last but one offset. -/
theorem witness_ReceivedByteIsStored : ∀ off ∈ [0, 29], ∃ s : State,
    s.rxOff = off ∧ s.InContract ∧ (s.botIn s.pins).rst = false ∧ s.st = .recvCbw ∧
    (s.botIn s.pins).rxValid = true ∧ s.rxOff ≠ s.cfg.cbwLen - 1 ∧ s.rxOff < s.cbw.length := by
  intro off hoff
  refine ⟨{ fresh (offer 0x55) with rxOff := off }, rfl, ⟨standard_valid, rfl, rfl⟩, rfl, rfl, rfl, ?_⟩
  simp at hoff
  rcases hoff with rfl | rfl <;> decide

theorem witness_FinalByteStartsProcessing : ∃ s : State,
    s.InContract ∧ (s.botIn s.pins).rst = false ∧ s.st = .recvCbw ∧ (s.botIn s.pins).rxValid = true ∧
    s.rxOff = s.cfg.cbwLen - 1 ∧ s.rxOff < s.cbw.length :=
  ⟨{ fresh (offer 0x00) with rxOff := 30 }, ⟨by decide, by decide, by decide⟩, rfl, rfl, rfl, rfl, by decide⟩

theorem witness_NoByteNoChange :
    (fresh Pins.quiet).InContract ∧ ((fresh Pins.quiet).botIn (fresh Pins.quiet).pins).rst = false ∧
    (fresh Pins.quiet).st = .recvCbw ∧ ((fresh Pins.quiet).botIn (fresh Pins.quiet).pins).rxValid = false :=
  ⟨fresh_contract, rfl, rfl, rfl⟩

theorem witness_CommandsFrame :
    ∀ i ∈ [Instr.badSignature 0 0 (fields 0 0 0 0 0), .testUnitReady (fields 0 0 0 0 0),
      .readCapacity10 (fields 0 0 0 0 0), .read10 (fields 0 0 0 0 0), .other 0xFF (fields 0 0 0 0 0)],
    ∃ t, exec i State.reset = .next t := by
  simp [exec, execBadSignature, execTestUnitReady, execReadCapacity10, execRead10, execOther]

theorem witness_StepRunsTheDecodedInstructions : ∃ u v : State, ∃ i : Instr,
    configValid (processing recTur 0 false).cfg = true ∧ (processing recTur 0 false).st = .processCbw ∧
    ((processing recTur 0 false).botIn Pins.quiet).rst = false ∧
    decodeCbw (processing recTur 0 false).cbw = .ok i ∧
    exec (decodeArb false Pins.quiet.h Pins.quiet.d) (processing recTur 0 false) = .next u ∧
    exec i (u.logBot ⟨(processing recTur 0 false).botIn Pins.quiet, (processing recTur 0 false).botOut⟩) = .next v :=
  ⟨_, _, _, by decide, rfl, rfl, rfl, rfl, rfl⟩

theorem witness_ProcessCbwLastsOneCycle :
    (processing recTur 0 false).st = .processCbw ∧ (∃ t, step (processing recTur 0 false) = .next t) ∧
    ∃ t, step { processing recTur 0 false with script := [{ Pins.quiet with botRst := true }] } = .next t :=
  ⟨rfl, ⟨_, rfl⟩, ⟨_, rfl⟩⟩

/-- Every clause: the discard, the two polls' ends, and each command not ready and ready. -/
theorem witness_ProcessCbwFollowsThePseudocode :
    ∀ x ∈ [(recBadSig, 0, false), (recTur, 0, false), (recTur, 1, false), (recTur, 2, false), (recRdcap, 2, false),
      (recRead, 2, false), (recRdcap, 2, true), (recRead, 2, true), (recInquiry, 0, false)],
    configValid (processing x.1 x.2.1 x.2.2).cfg = true ∧
    (processing x.1 x.2.1 x.2.2).pins.h.contract = true ∧
    ((processing x.1 x.2.1 x.2.2).deviceIn (processing x.1 x.2.1 x.2.2).pins).contract = true ∧
    (processing x.1 x.2.1 x.2.2).cbw.length = (processing x.1 x.2.1 x.2.2).cfg.cbwLen ∧
    (processing x.1 x.2.1 x.2.2).st = .processCbw ∧
    ((processing x.1 x.2.1 x.2.2).botIn (processing x.1 x.2.1 x.2.2).pins).rst = false := by decide

/-- On both sides of the law. -/
theorem witness_FailedStatusLaw :
    ((processing recTur 0 false).InContract ∧ (processing recTur 0 false).Inv ∧ signed recTur = true) ∧
    ((processing recRead 2 true).InContract ∧ (processing recRead 2 true).Inv ∧ signed recRead = true) ∧
    ((processing recRead 2 true).botIn (processing recRead 2 true).pins).rst = false :=
  ⟨⟨⟨by decide, by decide, by decide⟩, processing_inv.1, by decide⟩,
    ⟨⟨by decide, by decide, by decide⟩, processing_inv.2, by decide⟩, rfl⟩

/-- The hypotheses of the four handshake statements and of the stall, at the clauses' boundaries. -/
theorem witness_Handshakes : ∀ x ∈ [(BotState.sendCapacity, 0), (.sendCapacity, 6), (.sendCapacity, 7),
      (.sendData, 0), (.sendData, 510), (.sendData, 511), (.sendCsw, 0), (.sendCsw, 11), (.sendCsw, 12)],
    (sending take x.1 x.2).InContract ∧ ((sending take x.1 x.2).botIn (sending take x.1 x.2).pins).rst = false ∧
    (sending take x.1 x.2).st = x.1 ∧ (sending take x.1 x.2).txCur = x.2 ∧
    ((sending take x.1 x.2).botIn (sending take x.1 x.2).pins).txReady = true :=
  fun _ _ => ⟨⟨standard_valid, rfl, rfl⟩, rfl, rfl, rfl, rfl⟩

theorem witness_TransmitStallChangesNothing : ∀ st ∈ [BotState.sendCapacity, .sendData, .sendCsw],
    (sending Pins.quiet st 5).InContract ∧
    ((sending Pins.quiet st 5).botIn (sending Pins.quiet st 5).pins).rst = false ∧
    (sending Pins.quiet st 5).st = st ∧
    ((sending Pins.quiet st 5).botIn (sending Pins.quiet st 5).pins).txReady = false :=
  fun _ _ => ⟨⟨standard_valid, rfl, rfl⟩, rfl, rfl, rfl⟩

/-- Every row of the state graph: both outcomes of each state. -/
theorem witness_StateGraph :
    ((fresh (offer 0)).InContract ∧ ∃ t, step (fresh (offer 0)) = .next t) ∧
    (∃ t, step { fresh (offer 0) with rxOff := 30 } = .next t) ∧
    (∃ t, step (processing recBadSig 0 false) = .next t) ∧ (∃ t, step (processing recTur 0 false) = .next t) ∧
    (∃ t, step (sending take .sendCapacity 6) = .next t) ∧ (∃ t, step (sending take .sendCapacity 7) = .next t) ∧
    (∃ t, step (sending take .sendData 510) = .next t) ∧ (∃ t, step (sending take .sendData 511) = .next t) ∧
    (∃ t, step (sending take .sendCsw 11) = .next t) ∧ (∃ t, step (sending take .sendCsw 12) = .next t) :=
  ⟨⟨⟨by decide, rfl, rfl⟩, _, rfl⟩, ⟨_, rfl⟩, ⟨_, rfl⟩, ⟨_, rfl⟩, ⟨_, rfl⟩, ⟨_, rfl⟩, ⟨_, rfl⟩, ⟨_, rfl⟩, ⟨_, rfl⟩, ⟨_, rfl⟩⟩

theorem witness_CommandIsHeldUntilAnswered :
    (sending (offer 0xEE) .sendData 5).st ≠ .recvCbw ∧
    ((sending (offer 0xEE) .sendData 5).botIn (sending (offer 0xEE) .sendData 5).pins).rst = false ∧
    ∃ t, step (sending (offer 0xEE) .sendData 5) = .next t := ⟨by decide, rfl, _, rfl⟩

theorem witness_ReadinessIsMonotone :
    (processing recTur 2 true).ready = true ∧
    ((processing recTur 2 true).botIn (processing recTur 2 true).pins).rst = false ∧
    ∃ t, step (processing recTur 2 true) = .next t := ⟨rfl, rfl, _, rfl⟩

theorem witness_StepKeepsTheInvariants :
    (processing recRead 2 true).Inv ∧ ∃ t, step (processing recRead 2 true) = .next t :=
  ⟨processing_inv.2, _, rfl⟩

/-- The ends of R8's ranges: also for CapacityRecordValues. -/
theorem witness_ConfigurationsInRange :
    configValid { Config.standard with blockCount := 1, blockSize := 1, cbwLen := 25 } = true ∧
    configValid { Config.standard with blockCount := 2 ^ 32, blockSize := 2 ^ 32 - 1 } = true := by decide

theorem witness_EveryContractCycleCompletes :
    (fresh Pins.quiet).Inv ∧ (fresh Pins.quiet).InContract := ⟨fresh_inv _, fresh_contract⟩

theorem witness_RefusalsAreConfigurationAndOpMode :
    ((fresh (bus ⟨.reserved, false, 0⟩ ⟨.normal, false, 0⟩)).Inv ∧
      step (fresh (bus ⟨.reserved, false, 0⟩ ⟨.normal, false, 0⟩)) = .refused .reservedOpMode) ∧
    ({ fresh Pins.quiet with cfg := { Config.standard with blockCount := 0 } } : State).Inv ∧
    step { fresh Pins.quiet with cfg := { Config.standard with blockCount := 0 } } = .refused .badConfig :=
  ⟨⟨fresh_inv _, rfl⟩, by
    constructor <;> simp [fresh, State.reset, State.construct, Config.standard, BotState.sends, freeBuffer], rfl⟩

theorem witness_ConfigurationsOutOfRangeAreRefused :
    { Config.standard with blockCount := 0 }.blockCount = 0 ∧
    2 ^ 32 < { Config.standard with blockCount := 2 ^ 32 + 1 }.blockCount ∧
    { Config.standard with blockSize := 0 }.blockSize = 0 ∧
    2 ^ 32 ≤ { Config.standard with blockSize := 2 ^ 32 }.blockSize ∧
    { Config.standard with cbwLen := 30 }.cbwLen ≠ 25 ∧ { Config.standard with cbwLen := 30 }.cbwLen ≠ 31 := by
  decide

theorem witness_ResetEdgeSetsTheRegisters :
    ∃ s : State, s.InContract ∧ s.Inv ∧ s.pins.arbRst = true ∧ s.pins.botRst = true ∧ s.st = .sendData ∧
      s.cntHd = 2 := by
  refine ⟨{ sending { take with arbRst := true, botRst := true } .sendData 100 with cntHd := 2 },
    ⟨standard_valid, rfl, rfl⟩, ?_, rfl, rfl, rfl, rfl⟩
  constructor <;> decide

theorem witness_BotDoesNotSeeTheBus :
    (∃ t, cycle Pins.quiet (processing recTur 0 false) = .next t) ∧
    (∃ t, cycle (bus ⟨.rawDrive, true, 0xFF⟩ ⟨.chirp, true, 0⟩) (processing recTur 0 false) = .next t) ∧
    (processing recTur 0 false).cfg.wiring = .independent ∧
    (processing recTur 0 false).cfg.busResetResetsBot = false := ⟨⟨_, rfl⟩, ⟨_, rfl⟩, rfl, rfl⟩

theorem witness_TiedBusResetResetsBot :
    ∃ s : State, s.InContract ∧ s.cfg.busResetResetsBot = true ∧
      decodeArb s.cfg.resetRequiresTxValid s.pins.h (s.deviceIn s.pins) =
        .hostReset s.pins.h (s.deviceIn s.pins) :=
  ⟨{ fresh (bus ⟨.rawDrive, false, 0⟩ ⟨.normal, false, 0⟩) with
      cfg := { Config.standard with busResetResetsBot := true } }, ⟨by decide, rfl, rfl⟩, rfl, rfl⟩

theorem botAlone_standard : BotAlone Config.standard := ⟨by decide, rfl, rfl⟩

theorem fresh_awaits (ps : List Pins) : AwaitsCbw { State.reset with script := ps } := ⟨rfl, rfl, rfl, rfl⟩

/-- The pins that offer a record, byte by byte. -/
def offers (bytes : List Byte) : List Pins := bytes.map offer

theorem feeds_offers (bytes : List Byte) : Feeds bytes (offers bytes) := by
  simp [Feeds, offers, offer, Function.comp_def]

theorem calm_offers (bytes : List Byte) : ∀ p ∈ offers bytes, Calm p := by
  intro p hp
  obtain ⟨b, _, rfl⟩ := List.mem_map.1 hp
  exact ⟨rfl, rfl, rfl⟩

theorem accepts_takes (n : Nat) : Accepts (List.replicate n take) := by
  intro p hp
  rw [List.eq_of_mem_replicate hp]
  rfl

theorem calm_takes (n : Nat) : ∀ p ∈ List.replicate n take, Calm p := by
  intro p hp
  rw [List.eq_of_mem_replicate hp]
  exact ⟨rfl, rfl, rfl⟩

/-- A record, one cycle, and `n` cycles that accept a byte each make a transaction. -/
theorem transaction (cfg : Config) (cbw : List Byte) (n : Nat) (h : cbw.length = cfg.cbwLen) :
    IsTransaction cfg cbw n (offers cbw ++ Pins.quiet :: List.replicate n take) := by
  refine ⟨_, _, _, rfl, ?_, h, feeds_offers _, accepts_takes _, List.length_replicate⟩
  intro p hp
  rcases List.mem_append.1 hp with hp | hp
  · exact calm_offers _ _ hp
  · rcases List.mem_cons.1 hp with rfl | hp
    · exact ⟨rfl, rfl, rfl⟩
    · exact calm_takes _ _ hp

theorem witness_WholeCbwIsReceived :
    ∃ (s : State) (ps : List Pins), BotAlone s.cfg ∧ AwaitsCbw s ∧ s.cbw.length = s.cfg.cbwLen ∧
      recTur.length = s.cfg.cbwLen ∧ Feeds recTur ps ∧ (∀ p ∈ ps, Calm p) ∧ s.script = ps ++ [] :=
  ⟨{ State.reset with script := offers recTur }, offers recTur, botAlone_standard, fresh_awaits _, rfl, rfl,
    feeds_offers _, calm_offers _, (List.append_nil _).symm⟩

theorem witness_DataBlockIsTheXorPattern :
    ∃ (s : State) (ps : List Pins), BotAlone s.cfg ∧ s.st = .sendData ∧ s.txCur = 0 ∧
      ps.length = s.cfg.blockSize ∧ Accepts ps ∧ (∀ p ∈ ps, Calm p) ∧ s.script = ps ++ [] :=
  ⟨{ sending take .sendData 0 with script := List.replicate 512 take }, List.replicate 512 take,
    botAlone_standard, rfl, rfl, List.length_replicate, accepts_takes _, calm_takes _, (List.append_nil _).symm⟩

theorem witness_EveryCommandIsAnsweredInFull :
    ∃ (s : State) (ps : List Pins), BotAlone s.cfg ∧ s.Inv ∧ AwaitsCbw s ∧
      IsTransaction s.cfg recTur (response s.cfg s.ready s.polls recTur).length ps ∧ s.script = ps ++ [] := by
  refine ⟨{ State.reset with script := offers recTur ++ Pins.quiet :: List.replicate 13 take },
    offers recTur ++ Pins.quiet :: List.replicate 13 take, botAlone_standard, ?_, fresh_awaits _,
    transaction _ _ _ rfl, (List.append_nil _).symm⟩
  constructor <;> simp [State.reset, State.construct, Config.standard, BotState.sends, freeBuffer]

/-- A ready machine that awaits a CBW, with the script of one transaction of the given record. -/
def readyFor (cbw : List Byte) : State :=
  { State.reset with
    polls := 2
    ready := true
    script := offers cbw ++ Pins.quiet ::
      List.replicate (response Config.standard true 2 cbw).length take }

/-- The hypotheses of EveryCommandIsAnsweredInFull hold of a ready machine and any record of 31 bytes. -/
theorem readyFor_meets (cbw : List Byte) (h : cbw.length = 31) :
    ∃ (s : State) (ps : List Pins), s.ready = true ∧ BotAlone s.cfg ∧ s.Inv ∧ AwaitsCbw s ∧
      IsTransaction s.cfg cbw (response s.cfg s.ready s.polls cbw).length ps ∧ s.script = ps ++ [] := by
  refine ⟨readyFor cbw, (readyFor cbw).script, rfl, botAlone_standard, ?_, ⟨rfl, rfl, rfl, rfl⟩,
    transaction _ _ _ h, (List.append_nil _).symm⟩
  constructor <;>
    simp [readyFor, State.reset, State.construct, Config.standard, BotState.sends, freeBuffer, turFailLimit]

/-- A bad signature, which has no answer. -/
theorem witness_EveryCommandIsAnsweredInFull_badSignature :
    response Config.standard true 2 recBadSig = [] ∧
    ∃ (s : State) (ps : List Pins), s.ready = true ∧ BotAlone s.cfg ∧ s.Inv ∧ AwaitsCbw s ∧
      IsTransaction s.cfg recBadSig (response s.cfg s.ready s.polls recBadSig).length ps ∧ s.script = ps ++ [] :=
  ⟨by decide, readyFor_meets _ rfl⟩

/-- READ_CAPACITY(10), ready: row C2's capacity record before the CSW. -/
theorem witness_EveryCommandIsAnsweredInFull_readCapacity :
    response Config.standard true 2 recRdcap =
      [0x00, 0x00, 0x03, 0xFF, 0x00, 0x00, 0x02, 0x00] ++ cswBytes recRdcap 0x00 ∧
    ∃ (s : State) (ps : List Pins), s.ready = true ∧ BotAlone s.cfg ∧ s.Inv ∧ AwaitsCbw s ∧
      IsTransaction s.cfg recRdcap (response s.cfg s.ready s.polls recRdcap).length ps ∧ s.script = ps ++ [] :=
  ⟨by decide, readyFor_meets _ rfl⟩

/-- READ(10), ready: 512 data bytes before the CSW. -/
theorem witness_EveryCommandIsAnsweredInFull_read10 :
    response Config.standard true 2 recRead = dataBytes Config.standard recRead ++ cswBytes recRead 0x00 ∧
    (dataBytes Config.standard recRead).length = 512 ∧
    ∃ (s : State) (ps : List Pins), s.ready = true ∧ BotAlone s.cfg ∧ s.Inv ∧ AwaitsCbw s ∧
      IsTransaction s.cfg recRead (response s.cfg s.ready s.polls recRead).length ps ∧ s.script = ps ++ [] :=
  ⟨rfl, by simp [dataBytes, Config.standard], readyFor_meets _ rfl⟩

theorem witness_TestUnitReadySequence :
    ∃ (s : State) (cmds : List (List Byte × List Pins)), BotAlone s.cfg ∧ s.Inv ∧ AwaitsCbw s ∧
      s.polls = 0 ∧ s.ready = false ∧ s.trace = [] ∧ cmds.length = 3 ∧
      (∀ c ∈ cmds, signed c.1 = true ∧ byteAt c.1 15 = 0x00 ∧ IsTransaction s.cfg c.1 13 c.2) ∧
      s.script = cmds.flatMap Prod.snd ++ [] := by
  refine ⟨{ State.reset with script :=
      (List.replicate 3 (recTur, offers recTur ++ Pins.quiet :: List.replicate 13 take)).flatMap Prod.snd },
    List.replicate 3 (recTur, offers recTur ++ Pins.quiet :: List.replicate 13 take), botAlone_standard, ?_,
    fresh_awaits _, rfl, rfl, rfl, rfl, ?_, (List.append_nil _).symm⟩
  · constructor <;> simp [State.reset, State.construct, Config.standard, BotState.sends, freeBuffer]
  · intro c hc
    rw [List.eq_of_mem_replicate hc]
    exact ⟨by decide, by decide, transaction _ _ _ rfl⟩

theorem witness_DirectCompositionWiring :
    (composed .recvCbw).cfg.wiring = .direct ∧ ∃ t, step (composed .recvCbw) = .next t := ⟨rfl, _, rfl⟩

/-- Both clauses: BOT awaiting a byte, and BOT answering. -/
theorem witness_EarlyBytesAreLostInTheComposition : ∀ st ∈ [BotState.recvCbw, .sendCsw],
    (composed st).InContract ∧ (composed st).Inv ∧ (composed st).cfg.wiring = .direct ∧
    ((composed st).botIn (composed st).pins).rst = false ∧ (composed st).pins.h.txValid = true ∧
    (composed st).cntHd = (composed st).cfg.pPreamble := by
  intro st hst
  refine ⟨⟨direct_valid, rfl, rfl⟩, ?_, rfl, rfl, rfl, rfl⟩
  simp at hst
  rcases hst with rfl | rfl
  · exact composed_inv.1
  · exact composed_inv.2

end Sys2Proof.Tests
end

section
/-!
PROOFS. The statements of spec/00_scope.md: the configuration's ranges (R8, R249), its constancy (R275),
and one step as both blocks' decoded instructions (R11).
-/

namespace Sys2Proof.Machine

/-! ### The configuration's ranges (R8, R249) -/

/-- R8's ranges, as propositions. -/
theorem configValid_iff (cfg : Config) :
    configValid cfg = true ↔
      1 ≤ cfg.blockCount ∧ cfg.blockCount ≤ 2 ^ 32 ∧ 1 ≤ cfg.blockSize ∧ cfg.blockSize < 2 ^ 32 ∧
        (cfg.cbwLen = 25 ∨ cfg.cbwLen = 31) := by
  simp [configValid, and_assoc]

/-- R249: outside them the step is refused, whatever else the state holds. -/
theorem step_of_not_configValid {s : State} (h : ¬ configValid s.cfg = true) :
    step s = .refused .badConfig := if_neg h

/-! ### What BOT's edge leaves alone (R20, R275) -/

/-- The two states agree on everything that is no register, buffer byte or trace event of BOT: the
configuration, ARB's counters, both port logs, the pins to come and the free-value counter. -/
structure SameOutsideBot (s u : State) : Prop where
  cfg : u.cfg = s.cfg
  cntHd : u.cntHd = s.cntHd
  cntDh : u.cntDh = s.cntDh
  arbLog : u.arbLog = s.arbLog
  botLog : u.botLog = s.botLog
  script : u.script = s.script
  draws : u.draws = s.draws

theorem CommandMove.sameOutsideBot {s u : State} (h : CommandMove s u) : SameOutsideBot s u := by
  cases h with
  | discard | pollFails | pollPasses | notReady | capacity | data | acknowledge =>
    exact ⟨rfl, rfl, rfl, rfl, rfl, rfl, rfl⟩

/-- BOT's edge writes BOT's own registers only, a reset included. -/
theorem BotMove.sameOutsideBot {b : BotIn} {s u : State} (h : BotMove b s u) : SameOutsideBot s u := by
  cases h with
  | command _ _ _ _ he => exact (exec_command_move he).sameOutsideBot
  | reset | wait | store | storeLast | stall | advance | finishData | finishCsw =>
    exact ⟨rfl, rfl, rfl, rfl, rfl, rfl, rfl⟩

/-! ### One step is both blocks' decoded instructions (R11, R254) -/

/-- A completed arbitration was within the contract, and is the cycle of R127. -/
theorem exec_decodeArb_next {r : Bool} {h d : SideIn} {s u : State}
    (he : exec (decodeArb r h d) s = .next u) :
    h.contract = true ∧ d.contract = true ∧
      u = s.arbCycle h d (arbitrate r h d).1 (arbitrate r h d).2 := by
  by_cases hc : h.contract = true ∧ d.contract = true
  · obtain ⟨hh, hd⟩ := hc
    rw [exec_decodeArb r h d s hh hd] at he
    cases he
    exact ⟨hh, hd, rfl⟩
  · rw [exec_decodeArb_reserved r h d s hc] at he
    cases he

/-- R178: in PROCESS_CBW, not reset, BOT's edge runs the command the buffer decodes to. -/
theorem botEdge_processCbw {b : BotIn} {s : State} {i : Instr} (hr : b.rst = false)
    (hs : s.st = .processCbw) (hi : decodeCbw s.cbw = .ok i) : botEdge b s = exec i s := by
  simp [botEdge, hr, hs, processCbw, hi]

end Sys2Proof.Machine

namespace Sys2Proof.Proofs

open Sys2Proof.Machine

/-- Settles O44: the arbitration and each move of BOT's edge keep the configuration. -/
theorem configurationNeverChanges : Obligations.ConfigurationNeverChanges := by
  intro s t h
  obtain ⟨-, u, hm, rfl⟩ := step_next h
  calc u.endCycle.cfg = u.cfg := rfl
    _ = s.arbDone.cfg := hm.sameOutsideBot.cfg
    _ = s.cfg := s.arbDone_cfg

/-- Settles O31: a completed arbitration puts the step in the contract, and BOT's edge then runs the
buffer's command, which the arbitration left as it was. -/
theorem stepRunsTheDecodedInstructions : Obligations.StepRunsTheDecodedInstructions := by
  intro s u v i hv hs hr hi harb hcmd
  obtain ⟨hh, hd, rfl⟩ := exec_decodeArb_next harb
  have hbot : botEdge (s.botIn s.pins) s.arbDone = exec i s.arbDone :=
    botEdge_processCbw hr (by simpa using hs) (by simpa using hi)
  have hrun : exec i s.arbDone = .next v := hcmd
  have hframe := (botEdge_move (hbot.trans hrun)).sameOutsideBot
  rw [step_inContract ⟨hv, hh, hd⟩, hbot, hrun]
  simp [State.endCycle, hframe.script, hframe.draws]

/-- Settles O47: each listed value violates a conjunct of R8's ranges. -/
theorem configurationsOutOfRangeAreRefused : Obligations.ConfigurationsOutOfRangeAreRefused := by
  intro s h
  refine step_of_not_configValid fun hv => ?_
  rw [configValid_iff] at hv
  omega

end Sys2Proof.Proofs
end

section
/-!
PROOFS. The statements of spec/10_state.md: the invariants of R41, what a command and a step leave
unchanged (R33 to R35), what BOT's edge does not read (R20, R29, R129, R274), and the receipt of a CBW
(R31).
-/

namespace Sys2Proof

/-! ### The decoder's priority chain, case by case (30_encoding.md R104, R105) -/

section Decode
variable {bytes : List Byte}

theorem decodeCommand_badSignature (hg : recordSignature bytes ≠ cbwMagic) :
    decodeCommand bytes =
      .badSignature (recordSignature bytes) (recordOpcode bytes) (recordFields bytes) := if_pos hg

theorem decodeCommand_testUnitReady (hg : recordSignature bytes = cbwMagic)
    (ho : recordOpcode bytes = opTestUnitReady) :
    decodeCommand bytes = .testUnitReady (recordFields bytes) := by
  simp [decodeCommand, hg, ho]

theorem decodeCommand_readCapacity10 (hg : recordSignature bytes = cbwMagic)
    (ho : recordOpcode bytes = opReadCapacity10) :
    decodeCommand bytes = .readCapacity10 (recordFields bytes) := by
  have h0 : opReadCapacity10 ≠ opTestUnitReady := by decide
  simp [decodeCommand, hg, ho, h0]

theorem decodeCommand_read10 (hg : recordSignature bytes = cbwMagic)
    (ho : recordOpcode bytes = opRead10) : decodeCommand bytes = .read10 (recordFields bytes) := by
  have h0 : opRead10 ≠ opTestUnitReady := by decide
  have h1 : opRead10 ≠ opReadCapacity10 := by decide
  simp [decodeCommand, hg, ho, h0, h1]

theorem decodeCommand_other (hg : recordSignature bytes = cbwMagic)
    (ho : recordOpcode bytes ≠ opTestUnitReady ∧ recordOpcode bytes ≠ opReadCapacity10 ∧
      recordOpcode bytes ≠ opRead10) :
    decodeCommand bytes = .other (recordOpcode bytes) (recordFields bytes) := by
  simp [decodeCommand, hg, ho]

end Decode

end Sys2Proof

namespace Sys2Proof.Machine

/-! ### The invariants (10_state.md R41) -/

/-- The part of the invariants that speaks of neither `st` nor the offset nor the cursor: the buffer's
length (R36), I-d and I-e. -/
structure State.DataInv (s : State) : Prop where
  bufferLength : s.cbw.length = s.cfg.cbwLen
  readyAfterPolls : s.ready = true → s.polls = turFailLimit
  pollsBound : s.polls ≤ turFailLimit
  hostCounterBound : s.cntHd ≤ s.cfg.pPreamble
  deviceCounterBound : s.cntDh ≤ s.cfg.pPreamble

theorem State.Inv.dataInv {s : State} (hi : s.Inv) : s.DataInv := { hi with }

/-- R8: the records are not empty. -/
theorem State.recLen_pos {s : State} (hv : configValid s.cfg = true) (hs : s.st.sends = true) :
    0 < s.recLen := by
  rw [configValid_iff] at hv
  rcases hst : s.st with _ | _ | _ | _ | _
  · simp [hst, BotState.sends] at hs
  · simp [hst, BotState.sends] at hs
  · simp [State.recLen, hst, capLen]
  · simp only [State.recLen, hst]
    omega
  · simp [State.recLen, hst, cswLen]

/-- With the offset and the cursor at 0, what is left of the invariants are I-c and I-g. -/
theorem State.DataInv.inv_of_start {s : State} (hd : s.DataInv) (hv : configValid s.cfg = true)
    (hoff : s.rxOff = 0) (hcur : s.txCur = 0) (hfail : s.st ≠ .sendCsw → s.fail = false)
    (hready : s.st = .sendCapacity ∨ s.st = .sendData → s.ready = true) : s.Inv :=
  { hd with
    offsetRange := by
      have := configValid_cbwLen hv
      omega
    offsetZero := fun _ => hoff
    cursorZero := fun _ => hcur
    failOnlyInCsw := hfail
    cursorRange := fun hs => hcur ▸ State.recLen_pos hv hs
    dataNeedsReady := hready }

/-- ARB's cycle keeps the invariants: its counters stay in range (I-e), and no register of BOT changes. -/
theorem State.Inv.arbDone {s : State} (hi : s.Inv) : s.arbDone.Inv := by
  constructor
  case hostCounterBound =>
    rw [State.arbDone_cntHd, State.arbDone_cfg]
    split
    · exact Nat.zero_le _
    · exact relayCount_le ..
  case deviceCounterBound =>
    rw [State.arbDone_cntDh, State.arbDone_cfg]
    split
    · exact Nat.zero_le _
    · exact relayCount_le ..
  all_goals simp only [State.arbDone_cfg, State.arbDone_st, State.arbDone_rxOff, State.arbDone_txCur,
    State.arbDone_ready, State.arbDone_polls, State.arbDone_fail, State.arbDone_cbw, State.arbDone_recLen]
  exacts [hi.bufferLength, hi.offsetRange, hi.offsetZero, hi.cursorZero, hi.failOnlyInCsw,
    hi.readyAfterPolls, hi.pollsBound, hi.cursorRange, hi.dataNeedsReady]

theorem State.Inv.endCycle {s : State} (hi : s.Inv) : s.endCycle.Inv := { hi with }

/-- A command keeps the poll counter's bound, and the latch's tie to it: a poll below the limit finds the
latch clear, and one at the limit sets it. -/
theorem CommandMove.dataInv {s u : State} (h : CommandMove s u) (hd : s.DataInv) : u.DataInv := by
  cases h with
  | pollFails _ _ hp =>
    exact { hd with
      readyAfterPolls := fun hr => absurd (hd.readyAfterPolls hr) (Nat.ne_of_lt hp)
      pollsBound := hp }
  | pollPasses _ _ hp =>
    exact { hd with readyAfterPolls := fun _ => Nat.le_antisymm hd.pollsBound (Nat.le_of_not_lt hp) }
  | discard | notReady | capacity | data | acknowledge => exact { hd with }

/-- R41 at the PROCESS_CBW cycle: the cursor and the offset are 0 there, and `fail` is clear. -/
theorem CommandMove.inv {s u : State} (h : CommandMove s u) (hv : configValid s.cfg = true)
    (hs : s.st = .processCbw) (hi : s.Inv) : u.Inv := by
  have hd : u.DataInv := h.dataInv hi.dataInv
  have hoff : s.rxOff = 0 := hi.offsetZero (by simp [hs])
  have hcur : s.txCur = 0 := hi.cursorZero (.inr hs)
  have hfail : s.fail = false := hi.failOnlyInCsw (by simp [hs])
  cases h with
  | discard => exact hd.inv_of_start hv hoff hcur (fun _ => hfail) (by simp)
  | capacity _ _ hr | data _ _ hr => exact hd.inv_of_start hv hoff hcur (fun _ => hfail) (fun _ => hr)
  | pollFails | pollPasses | notReady | acknowledge =>
    exact hd.inv_of_start hv hoff hcur (by simp) (by simp)

/-- R41 at BOT's edge. -/
theorem BotMove.inv {b : BotIn} {s u : State} (h : BotMove b s u) (hv : configValid s.cfg = true)
    (hi : s.Inv) : u.Inv := by
  have hd : s.DataInv := hi.dataInv
  cases h with
  | reset =>
    exact State.DataInv.inv_of_start
      { hd with
        bufferLength := length_freeBuffer ..
        readyAfterPolls := by simp
        pollsBound := Nat.zero_le _ }
      hv rfl rfl (fun _ => rfl) (by simp)
  | wait | stall => exact hi
  | store _ hs _ ho =>
    exact { hi with
      bufferLength := List.length_set.trans hi.bufferLength
      offsetRange := by
        have : s.rxOff < s.cfg.cbwLen := hi.offsetRange
        show s.rxOff + 1 < s.cfg.cbwLen
        omega
      offsetZero := fun hne => absurd hs hne }
  | storeLast _ hs =>
    have hfail : s.fail = false := hi.failOnlyInCsw (by simp [hs])
    exact State.DataInv.inv_of_start { hd with bufferLength := List.length_set.trans hd.bufferLength }
      hv rfl rfl (fun _ => hfail) (by simp)
  | command _ hs _ _ he => exact (exec_command_move he).inv hv hs hi
  | advance _ hs _ ho =>
    exact { hi with
      cursorZero := by
        rintro (h | h) <;> rw [State.setTxCur_st] at h <;> simp [h, BotState.sends] at hs
      cursorRange := fun _ => by
        have : s.txCur < s.recLen := hi.cursorRange hs
        show s.txCur + 1 < s.recLen
        omega }
  | finishData _ hs =>
    have hoff : s.rxOff = 0 := hi.offsetZero (by rcases hs with h | h <;> simp [h])
    exact State.DataInv.inv_of_start { hd with } hv hoff rfl (by simp) (by simp)
  | finishCsw _ hs =>
    have hoff : s.rxOff = 0 := hi.offsetZero (by simp [hs])
    exact State.DataInv.inv_of_start { hd with } hv hoff rfl (fun _ => rfl) (by simp)

/-! ### The moves of Laws/Ops.lean are exactly what BOT's edge does -/

/-- The converse of `exec_command_move`. -/
theorem CommandMove.exec_eq {s u : State} (h : CommandMove s u) :
    exec (decodeCommand s.cbw) s = .next u := by
  cases h with
  | discard hg => rw [decodeCommand_badSignature hg]; rfl
  | pollFails hg ho hp =>
    rw [decodeCommand_testUnitReady hg ho, exec, execTestUnitReady, State.pollReadiness_below (s.emit _) hp]
    rfl
  | pollPasses hg ho hp =>
    rw [decodeCommand_testUnitReady hg ho, exec, execTestUnitReady, State.pollReadiness_atLimit (s.emit _) hp]
  | notReady hg op ho hop hp =>
    rcases hop with rfl | rfl
    · rw [decodeCommand_readCapacity10 hg ho, exec, execReadCapacity10,
        State.ifReady_notReady (s.emit _) _ hp]
    · rw [decodeCommand_read10 hg ho, exec, execRead10, State.ifReady_notReady (s.emit _) _ hp]
  | capacity hg ho hp =>
    rw [decodeCommand_readCapacity10 hg ho, exec, execReadCapacity10, State.ifReady_ready (s.emit _) _ hp]
  | data hg ho hp => rw [decodeCommand_read10 hg ho, exec, execRead10, State.ifReady_ready (s.emit _) _ hp]
  | acknowledge hg op ho hop =>
    subst ho
    rw [decodeCommand_other hg hop, exec, execOther]

theorem botEdge_of_sends {b : BotIn} {s : State} (hr : b.rst = false) (hs : s.st.sends = true) :
    botEdge b s = .next (s.transmit b) := by
  rcases hst : s.st with _ | _ | _ | _ | _
  · simp [hst, BotState.sends] at hs
  · simp [hst, BotState.sends] at hs
  · simp [botEdge, hr, hst]
  · simp [botEdge, hr, hst]
  · simp [botEdge, hr, hst]

theorem botEdge_of_recvCbw {b : BotIn} {s : State} (hr : b.rst = false) (hs : s.st = .recvCbw) :
    botEdge b s = .next (s.receive b) := by
  simp [botEdge, hr, hs]

theorem State.transmit_last {b : BotIn} {s : State} (hv : b.txReady = true) (ho : s.txCur = s.recLen - 1) :
    s.transmit b = s.endRecord := by
  rw [State.transmit, if_pos hv, if_pos (s.onLastByte_iff.2 ho)]

/-- The converse of `botEdge_move`. -/
theorem BotMove.botEdge_eq {b : BotIn} {s u : State} (h : BotMove b s u) : botEdge b s = .next u := by
  cases h with
  | reset hr => simp [botEdge, hr]
  | wait hr hs hv => simp [botEdge_of_recvCbw hr hs, State.receive, hv]
  | store hr hs hv ho => simp [botEdge_of_recvCbw hr hs, State.receive, hv, ho]
  | storeLast hr hs hv ho => simp [botEdge_of_recvCbw hr hs, State.receive, hv, ho]
  | command hr hs hl _ he => simp [botEdge, hr, hs, processCbw, decodeCbw, hl, he]
  | stall hr hs hv => simp [botEdge_of_sends hr hs, State.transmit, hv]
  | advance hr hs hv ho => simp [botEdge_of_sends hr hs, State.transmit, hv, State.onLastByte, ho]
  | finishData hr hs hv ho =>
    have hsends : s.st.sends = true := by rcases hs with hs | hs <;> rw [hs] <;> rfl
    rw [botEdge_of_sends hr hsends, State.transmit_last hv ho]
    rcases hs with hs | hs <;> simp [State.endRecord, hs]
  | finishCsw hr hs hv ho =>
    rw [botEdge_of_sends hr (by rw [hs]; rfl), State.transmit_last hv ho]
    simp [State.endRecord, hs]

/-! ### BOT's edge reads BOT's registers alone (R20, R29, R129, R274) -/

/-- `s` with ARB's counters, the pins to come, the trace and the port logs taken from `x`: everything BOT's
edge does not read. -/
def State.aside (s x : State) : State :=
  { s with
    cntHd := x.cntHd
    cntDh := x.cntDh
    trace := x.trace
    arbLog := x.arbLog
    botLog := x.botLog
    script := x.script }

/-- A command beside other surroundings: the same registers, and the same events on the other trace. -/
theorem CommandMove.aside {s u : State} (h : CommandMove s u) (x : State) :
    ∃ tr, CommandMove (s.aside x) (u.aside { x with trace := tr }) ∧
      (x.trace = s.trace → tr = u.trace) := by
  cases h with
  | discard hg => exact ⟨_, .discard (s := s.aside x) hg, id⟩
  | pollFails hg ho hp => exact ⟨_, .pollFails (s := s.aside x) hg ho hp, congrArg _⟩
  | pollPasses hg ho hp => exact ⟨_, .pollPasses (s := s.aside x) hg ho hp, congrArg _⟩
  | notReady hg op ho hop hp => exact ⟨_, .notReady (s := s.aside x) hg op ho hop hp, congrArg _⟩
  | capacity hg ho hp => exact ⟨_, .capacity (s := s.aside x) hg ho hp, congrArg _⟩
  | data hg ho hp => exact ⟨_, .data (s := s.aside x) hg ho hp, congrArg _⟩
  | acknowledge hg op ho hop => exact ⟨_, .acknowledge (s := s.aside x) hg op ho hop, congrArg _⟩

/-- A move of BOT's edge beside other surroundings, likewise. -/
theorem BotMove.aside {b : BotIn} {s u : State} (h : BotMove b s u) (x : State) :
    ∃ tr, BotMove b (s.aside x) (u.aside { x with trace := tr }) ∧ (x.trace = s.trace → tr = u.trace) := by
  cases h with
  | reset hr => exact ⟨_, .reset (s := s.aside x) hr, id⟩
  | wait hr hs hv => exact ⟨_, .wait (s := s.aside x) hr hs hv, id⟩
  | store hr hs hv ho => exact ⟨_, .store (s := s.aside x) hr hs hv ho, id⟩
  | storeLast hr hs hv ho => exact ⟨_, .storeLast (s := s.aside x) hr hs hv ho, id⟩
  | command hr hs hl _ he =>
    obtain ⟨tr, hm, ht⟩ := (exec_command_move he).aside x
    exact ⟨tr, .command (s := s.aside x) hr hs hl _ hm.exec_eq, ht⟩
  | stall hr hs hv => exact ⟨_, .stall (s := s.aside x) hr hs hv, id⟩
  | advance hr hs hv ho => exact ⟨_, .advance (s := s.aside x) hr hs hv ho, id⟩
  | finishData hr hs hv ho => exact ⟨_, .finishData (s := s.aside x) hr hs hv ho, id⟩
  | finishCsw hr hs hv ho => exact ⟨_, .finishCsw (s := s.aside x) hr hs hv ho, congrArg _⟩

/-! ### What the commands leave unchanged (R33 to R35, R223) -/

/-- TEST_UNIT_READY's flags are all that polling writes. -/
theorem State.pollReadiness_frame (s : State) :
    ∃ ready polls fail, s.pollReadiness = { s with ready := ready, polls := polls, fail := fail } := by
  unfold State.pollReadiness
  split <;> exact ⟨_, _, _, rfl⟩

/-- A command that needs readiness writes `st` and `fail` alone. -/
theorem State.ifReady_frame (s : State) (x : BotState) :
    ∃ st fail, s.ifReady x = { s with st := st, fail := fail } := by
  unfold State.ifReady
  split <;> exact ⟨_, _, rfl⟩

/-- R33, R34: `ready` is only ever set, and `polls` only ever counted up. -/
def ReadinessGrows (s u : State) : Prop := (s.ready = true → u.ready = true) ∧ s.polls ≤ u.polls

theorem CommandMove.readinessGrows {s u : State} (h : CommandMove s u) : ReadinessGrows s u := by
  cases h with
  | pollFails => exact ⟨id, Nat.le_succ _⟩
  | pollPasses => exact ⟨fun _ => rfl, Nat.le_refl _⟩
  | discard | notReady | capacity | data | acknowledge => exact ⟨id, Nat.le_refl _⟩

theorem BotMove.readinessGrows {b : BotIn} {s u : State} (h : BotMove b s u) (hr : b.rst = false) :
    ReadinessGrows s u := by
  cases h with
  | reset hr' => simp [hr] at hr'
  | command _ _ _ _ he => exact (exec_command_move he).readinessGrows
  | wait | store | storeLast | stall | advance | finishData | finishCsw => exact ⟨id, Nat.le_refl _⟩

/-! ### Steps and cycles as moves -/

/-- The converse of `step_next`. -/
theorem step_of_move {s u : State} (hc : s.InContract) (hm : BotMove (s.botIn s.pins) s.arbDone u) :
    step s = .next u.endCycle := by
  rw [step_inContract hc, hm.botEdge_eq]

/-- BOT's edge is deterministic: one move at most applies. -/
theorem BotMove.unique {b : BotIn} {s u v : State} (hu : BotMove b s u) (hv : BotMove b s v) : u = v := by
  have h := hu.botEdge_eq.symm.trans hv.botEdge_eq
  cases h
  rfl

/-- ARB's edge, with any pins, leaves BOT's registers and the trace as they were. -/
theorem arbEdge_next {p : Pins} {s a : State} (h : arbEdge p s = .next a) :
    a = s.aside a ∧ a.trace = s.trace := by
  unfold arbEdge at h
  rcases he : exec (s.arbInstr p) s with v | r | r <;> rw [he] at h <;> cases h
  obtain ⟨-, -, rfl⟩ := exec_decodeArb_next he
  split <;> exact ⟨rfl, rfl⟩

/-- A completed cycle, with any pins, is ARB's edge and then a move of BOT's. -/
theorem cycle_next {p : Pins} {s t : State} (h : cycle p s = .next t) :
    ∃ a u, a = s.aside a ∧ a.trace = s.trace ∧ BotMove (s.botIn p) a u ∧ t = u.endCycle := by
  unfold cycle at h
  split at h
  next =>
    rcases ha : arbEdge p s with a | r | r <;> rw [ha] at h <;> simp only at h
    · rcases hb : botEdge (s.botIn p) (a.logBot ⟨s.botIn p, s.botOut⟩) with u | r | r <;>
        rw [hb] at h <;> cases h
      obtain ⟨hs, htrace⟩ := arbEdge_next ha
      exact ⟨a.logBot ⟨s.botIn p, s.botOut⟩, u, congrArg (·.logBot ⟨s.botIn p, s.botOut⟩) hs, htrace,
        botEdge_move hb, rfl⟩
    · cases h
    · cases h
  next => cases h

/-! ### The three lists of observations feed nothing back (R29, R129) -/

/-- The state with other contents of the three lists of observations (R29, R129). -/
def State.withLists (s : State) (trace : List TraceEvent) (arbLog : List ArbRecord)
    (botLog : List BotRecord) : State :=
  { s with trace := trace, arbLog := arbLog, botLog := botLog }

/-- ARB's cycle reads none of the three lists. -/
theorem State.arbDone_withLists (s : State) (trace : List TraceEvent) (arbLog : List ArbRecord)
    (botLog : List BotRecord) :
    ∃ arbLog' botLog',
      (s.withLists trace arbLog botLog).arbDone = s.arbDone.withLists trace arbLog' botLog' := by
  have hpins : (s.withLists trace arbLog botLog).pins = s.pins := rfl
  unfold State.arbDone
  rw [hpins]
  split <;> exact ⟨_, _, rfl⟩

/-- BOT's edge reads none of them, and writes the trace alone. -/
theorem BotMove.withLists {b : BotIn} {s u : State} (h : BotMove b s u) (trace : List TraceEvent)
    (arbLog : List ArbRecord) (botLog : List BotRecord) :
    ∃ tr, BotMove b (s.withLists trace arbLog botLog) (u.withLists tr arbLog botLog) := by
  have hframe := h.sameOutsideBot
  obtain ⟨tr, hm, -⟩ := h.aside (s.withLists trace arbLog botLog)
  have hu : u.withLists tr arbLog botLog = u.aside (s.withLists tr arbLog botLog) := by
    simp [State.aside, State.withLists, ← hframe.cntHd, ← hframe.cntDh, ← hframe.script]
  exact ⟨tr, hu ▸ hm⟩

/-! ### The blocks standing alone (R1, R274) -/

/-- With the blocks alone and the bus reset not tied, BOT's inputs are its own pins (R274). -/
theorem State.botIn_alone {s : State} (hw : s.cfg.wiring = .independent)
    (ht : s.cfg.busResetResetsBot = false) (p : Pins) :
    s.botIn p = ⟨p.botRst, p.rxValid, p.rxData, p.txReady⟩ := by
  simp [State.botIn, State.botRst, hw, ht]

theorem State.deviceIn_alone {s : State} (hw : s.cfg.wiring = .independent) (p : Pins) :
    s.deviceIn p = p.d := by
  simp [State.deviceIn, hw]

theorem State.pins_of_script {s : State} {p : Pins} {ps : List Pins} (h : s.script = p :: ps) :
    s.pins = p := by
  simp [State.pins, h]

/-! ### The receipt of a CBW (R31, R162, R163) -/

open Sys2Proof.Claims

/-- A calm cycle of the blocks alone is a move of BOT's edge under its own pins. -/
theorem step_alone {s u : State} {p : Pins} {ps : List Pins} (hc : BotAlone s.cfg) (hp : Calm p)
    (hs : s.script = p :: ps)
    (hm : BotMove ⟨false, p.rxValid, p.rxData, p.txReady⟩ s.arbDone u) : step s = .next u.endCycle := by
  obtain ⟨hv, hw, ht⟩ := hc
  obtain ⟨hrst, hh, hd⟩ := hp
  have hpins : s.pins = p := State.pins_of_script hs
  have hcontract : s.InContract := by
    rw [State.InContract, hpins, State.deviceIn_alone hw]
    exact ⟨hv, hh, hd⟩
  refine step_of_move hcontract ?_
  rw [hpins, State.botIn_alone hw ht, hrst]
  exact hm

/-- BOT receives a CBW of which `bytes` are still to come; they are offered on the next cycles. -/
structure Receiving (s : State) (bytes : List Byte) (ps rest : List Pins) : Prop where
  alone : BotAlone s.cfg
  state : s.st = .recvCbw
  toCome : s.rxOff + bytes.length = s.cfg.cbwLen
  bufferLength : s.cbw.length = s.cfg.cbwLen
  feeds : Feeds bytes ps
  calm : ∀ p ∈ ps, Calm p
  script : s.script = ps ++ rest

/-- `t` has received what `s` was waiting for. -/
structure Received (s : State) (bytes : List Byte) (rest : List Pins) (t : State) : Prop where
  buffer : t.cbw = s.cbw.take s.rxOff ++ bytes
  state : t.st = .processCbw
  offset : t.rxOff = 0
  ready : t.ready = s.ready
  polls : t.polls = s.polls
  fail : t.fail = s.fail
  script : t.script = rest

/-- The first byte still to come is the one the next cycle's pins offer. -/
theorem feeds_cons {b : Byte} {bytes : List Byte} {ps : List Pins} (h : Feeds (b :: bytes) ps) :
    ∃ p ps', ps = p :: ps' ∧ p.rxValid = true ∧ p.rxData = b ∧ Feeds bytes ps' := by
  cases ps with
  | nil => simp [Feeds] at h
  | cons p ps' =>
    simp only [Feeds, List.map_cons, List.cons.injEq, Prod.mk.injEq] at h
    obtain ⟨⟨hv, hd⟩, hrest⟩ := h
    exact ⟨p, ps', rfl, hv, hd, hrest⟩

/-- A store at the offset extends the received part of the buffer by the stored byte. -/
theorem take_succ_set {l : List Byte} {k : Nat} (h : k < l.length) (b : Byte) :
    (l.set k b).take (k + 1) = l.take k ++ [b] := by
  rw [List.take_succ_eq_append_getElem (by simpa using h), List.take_set_of_le (Nat.le_refl k),
    List.getElem_set_self]

/-- R162: while more bytes are to come, the cycle stores the offered one. -/
theorem Receiving.step_store {s : State} {b b' : Byte} {bytes : List Byte} {ps rest : List Pins}
    (h : Receiving s (b :: b' :: bytes) ps rest) :
    ∃ t ps', step s = .next t ∧ Receiving t (b' :: bytes) ps' rest ∧
      t.cbw.take t.rxOff = s.cbw.take s.rxOff ++ [b] ∧ t.ready = s.ready ∧ t.polls = s.polls ∧
      t.fail = s.fail := by
  obtain ⟨p, ps, rfl, hv, rfl, hfeeds⟩ := feeds_cons h.feeds
  have hcount := h.toCome
  simp only [List.length_cons] at hcount
  have hoff : s.rxOff < s.cbw.length := by rw [h.bufferLength]; omega
  have hm := BotMove.store (b := ⟨false, p.rxValid, p.rxData, p.txReady⟩) (s := s.arbDone) rfl
    (by simpa using h.state) hv (by simp only [State.arbDone_rxOff, State.arbDone_cfg]; omega)
  refine ⟨_, ps, step_alone h.alone (h.calm p (by simp)) h.script hm, ?_, ?_, by simp, by simp, by simp⟩
  · exact
      { alone := by simpa using h.alone
        state := by simpa using h.state
        toCome := by
          simp only [State.endCycle_rxOff, State.setRxOff_rxOff, State.arbDone_rxOff, State.endCycle_cfg,
            State.setRxOff_cfg, State.storeCbw_cfg, State.arbDone_cfg, List.length_cons]
          omega
        bufferLength := by simpa using h.bufferLength
        feeds := hfeeds
        calm := fun q hq => h.calm q (by simp [hq])
        script := by simp [h.script] }
  · simpa using take_succ_set hoff p.rxData

/-- R163: the last byte starts PROCESS_CBW. -/
theorem Receiving.step_last {s : State} {b : Byte} {ps rest : List Pins}
    (h : Receiving s [b] ps rest) : ∃ t, step s = .next t ∧ Received s [b] rest t := by
  obtain ⟨p, ps, rfl, hv, rfl, hfeeds⟩ := feeds_cons h.feeds
  have hps : ps = [] := by simpa [Feeds] using hfeeds
  have hcount : s.rxOff + 1 = s.cfg.cbwLen := h.toCome
  have hoff : s.rxOff < s.cbw.length := by rw [h.bufferLength]; omega
  have hm := BotMove.storeLast (b := ⟨false, p.rxValid, p.rxData, p.txReady⟩) (s := s.arbDone) rfl
    (by simpa using h.state) hv (by simp only [State.arbDone_rxOff, State.arbDone_cfg]; omega)
  refine ⟨_, step_alone h.alone (h.calm p (by simp)) h.script hm, ?_⟩
  exact
    { buffer := by
        have hfull : (s.cbw.set s.rxOff p.rxData).take (s.rxOff + 1) = s.cbw.set s.rxOff p.rxData :=
          List.take_of_length_le (by simp [h.bufferLength, hcount])
        simpa [hfull] using take_succ_set hoff p.rxData
      state := by simp
      offset := by simp
      ready := by simp
      polls := by simp
      fail := by simp
      script := by simp [h.script, hps] }

/-- R162, R163 over all the bytes to come, by induction on them. -/
theorem Receiving.run {s : State} {b : Byte} {bytes : List Byte} {ps rest : List Pins}
    (h : Receiving s (b :: bytes) ps rest) :
    ∃ t, runCycles (bytes.length + 1) s = .next t ∧ Received s (b :: bytes) rest t := by
  induction bytes generalizing s b ps with
  | nil =>
    obtain ⟨t, hstep, ht⟩ := h.step_last
    exact ⟨t, by rw [runCycles_succ _ hstep]; rfl, ht⟩
  | cons b' bytes ih =>
    obtain ⟨u, ps', hstep, hu, htake, hready, hpolls, hfail⟩ := h.step_store
    obtain ⟨t, hrun, ht⟩ := ih hu
    refine ⟨t, (runCycles_succ _ hstep).trans hrun, ?_⟩
    exact
      { ht with
        buffer := by rw [ht.buffer, htake, List.append_assoc]; rfl
        ready := ht.ready.trans hready
        polls := ht.polls.trans hpolls
        fail := ht.fail.trans hfail }

end Sys2Proof.Machine

namespace Sys2Proof.Proofs

open Sys2Proof.Machine Sys2Proof.Claims

/-- Settles O42: ARB's cycle keeps the invariants, and so does each move of BOT's edge. -/
theorem stepKeepsTheInvariants : Obligations.StepKeepsTheInvariants := by
  intro s t hi h
  obtain ⟨⟨hv, -, -⟩, u, hm, rfl⟩ := step_next h
  have hu : u.Inv := hm.inv (by simpa using hv) hi.arbDone
  exact hu.endCycle

/-- Settles O43: a constructed machine stands at the start of a record, with the counters at 0. -/
theorem constructedMachineHasTheInvariants : Obligations.ConstructedMachineHasTheInvariants := by
  intro cfg hv
  have hd : (State.construct cfg).DataInv :=
    { bufferLength := length_freeBuffer ..
      readyAfterPolls := by simp [State.construct]
      pollsBound := Nat.zero_le _
      hostCounterBound := Nat.zero_le _
      deviceCounterBound := Nat.zero_le _ }
  exact hd.inv_of_start hv rfl rfl (fun _ => rfl) (by simp [State.construct])

/-- Settles O49: each register's value stands in the construction. -/
theorem resetValues : Obligations.ResetValues := ⟨rfl, rfl, rfl, rfl, rfl, rfl, rfl, rfl⟩

/-- Settles O30: the frames of the polling and of the data-phase test, which BAD_SIGNATURE and the other
opcodes run neither of. -/
theorem commandsFrame : Obligations.CommandsFrame := by
  intro s t sig op c i hi h
  rcases hi with rfl | rfl | rfl | rfl | rfl
  · cases h
    exact ⟨fun _ => rfl, rfl, rfl, rfl, rfl, rfl, rfl, rfl, rfl, rfl, fun _ => ⟨rfl, rfl⟩, fun _ => rfl⟩
  · obtain ⟨ready, polls, fail, hflags⟩ := (s.emit (.opcode opTestUnitReady)).pollReadiness_frame
    rw [exec, execTestUnitReady, hflags] at h
    cases h
    exact ⟨fun _ => rfl, rfl, rfl, rfl, rfl, rfl, rfl, rfl, rfl, rfl, fun hi => absurd rfl hi, by simp⟩
  · obtain ⟨st, fail, hdata⟩ := (s.emit (.opcode opReadCapacity10)).ifReady_frame .sendCapacity
    rw [exec, execReadCapacity10, hdata] at h
    cases h
    exact ⟨fun _ => rfl, rfl, rfl, rfl, rfl, rfl, rfl, rfl, rfl, rfl, fun _ => ⟨rfl, rfl⟩, by simp⟩
  · obtain ⟨st, fail, hdata⟩ := (s.emit (.opcode opRead10)).ifReady_frame .sendData
    rw [exec, execRead10, hdata] at h
    cases h
    exact ⟨fun _ => rfl, rfl, rfl, rfl, rfl, rfl, rfl, rfl, rfl, rfl, fun _ => ⟨rfl, rfl⟩, by simp⟩
  · cases h
    exact ⟨fun _ => rfl, rfl, rfl, rfl, rfl, rfl, rfl, rfl, rfl, rfl, fun _ => ⟨rfl, rfl⟩, fun _ => rfl⟩

/-- Settles O41: each move of BOT's edge but a reset only sets the latch and only counts up. -/
theorem readinessIsMonotone : Obligations.ReadinessIsMonotone := by
  intro s t h hr
  obtain ⟨-, u, hm, rfl⟩ := step_next h
  simpa [ReadinessGrows] using hm.readinessGrows hr

/-- Settles O50: both cycles hand BOT's edge the same inputs and the same registers, beside other
surroundings. -/
theorem botDoesNotSeeTheBus : Obligations.BotDoesNotSeeTheBus := by
  intro s t t' p p' hw ht hrst hvalid hdata hready h h'
  obtain ⟨a, u, ha, htrace, hu, rfl⟩ := cycle_next h
  obtain ⟨a', u', ha', htrace', hu', rfl⟩ := cycle_next h'
  have hin : s.botIn p' = s.botIn p := by
    rw [State.botIn_alone hw ht, State.botIn_alone hw ht, hrst, hvalid, hdata, hready]
  have hswap : a.aside a' = a' := by
    rw [ha, ha']
    rfl
  obtain ⟨tr, hm, htr⟩ := hu.aside a'
  rw [hswap, ← hin] at hm
  have hu'eq := hu'.unique hm
  rw [hu'eq, htr (htrace'.trans htrace.symm)]
  exact ⟨rfl, rfl, rfl, rfl, rfl, rfl, rfl, rfl⟩

/-- Settles O52: ARB's cycle and BOT's edge make the same move beside the other lists. -/
theorem observationsHaveNoFeedback : Obligations.ObservationsHaveNoFeedback := by
  intro s t trace arbLog botLog h
  obtain ⟨hc, u, hm, rfl⟩ := step_next h
  obtain ⟨arbLog', botLog', harb⟩ := s.arbDone_withLists trace arbLog botLog
  obtain ⟨trace', hm'⟩ := hm.withLists trace arbLog' botLog'
  rw [← harb] at hm'
  exact ⟨trace', arbLog', botLog', step_of_move (s := s.withLists trace arbLog botLog) hc hm'⟩

/-- Settles O55: a machine that awaits a CBW is receiving all of its bytes. -/
theorem wholeCbwIsReceived : Obligations.WholeCbwIsReceived := by
  intro s bytes ps rest halone hawaits hbuffer hlen hfeeds hcalm hscript
  obtain ⟨hst, hoff, -, hfail⟩ := hawaits
  have hreceiving : Receiving s bytes ps rest :=
    { alone := halone
      state := hst
      toCome := by omega
      bufferLength := hbuffer
      feeds := hfeeds
      calm := hcalm
      script := hscript }
  cases bytes with
  | nil =>
    have := configValid_cbwLen halone.1
    rw [List.length_nil] at hlen
    omega
  | cons b bytes =>
    obtain ⟨t, hrun, ht⟩ := hreceiving.run
    refine ⟨t, hlen ▸ hrun, ?_, ht.state, ht.offset, ht.ready, ht.polls, ht.fail.trans hfail, ht.script⟩
    simpa [hoff] using ht.buffer

end Sys2Proof.Proofs
end

section
/-!
PROOFS. The statements of spec/20_memory.md: the record spaces (R62 to R64), the buffer held while a command
is answered (R80), and the bytes of a data phase (R217) and of a whole transaction (R75, R76, R290).
-/

namespace Sys2Proof

/-! ### Byte order and the signature (30_encoding.md R12, R92, R97) -/

/-- The signature check of R92, on the byte list and on the assembled word. -/
theorem signed_iff (bytes : List Byte) :
    Claims.signed bytes = true ↔ recordSignature bytes = cbwMagic := by
  have hmagic : cbwMagic = le32 0x55 0x53 0x42 0x43 := by decide
  rw [hmagic, recordSignature, le32_inj]
  simp [Claims.signed, and_assoc]

end Sys2Proof

namespace Sys2Proof.Machine

open Sys2Proof.Claims

/-! ### The records (20_memory.md R62 to R64) -/

/-- R62: the two fields of the capacity record, read back big-endian. -/
theorem capRecord_fields (cfg : Config) :
    be32 (byteAt (capRecord cfg) 0) (byteAt (capRecord cfg) 1) (byteAt (capRecord cfg) 2)
        (byteAt (capRecord cfg) 3) = lastLba cfg ∧
      be32 (byteAt (capRecord cfg) 4) (byteAt (capRecord cfg) 5) (byteAt (capRecord cfg) 6)
        (byteAt (capRecord cfg) 7) = BitVec.ofNat 32 cfg.blockSize :=
  ⟨be32_of_bytes _, be32_of_bytes _⟩

@[simp] theorem length_capRecord (cfg : Config) : (capRecord cfg).length = capLen := rfl

@[simp] theorem State.length_cswRecord (s : State) : s.cswRecord.length = cswLen := rfl

/-- R64, R177. -/
theorem State.cswRecord_eq (s : State) :
    s.cswRecord = cswBytes s.cbw (if s.fail = true then 0x01 else 0x00) := by
  have hmagic : bytesLe32 cswMagic = [0x55, 0x53, 0x42, 0x53] := by decide
  have hstatus : s.status.code = if s.fail = true then 0x01 else 0x00 := by
    unfold State.status
    split <;> rfl
  rw [State.cswRecord, hmagic, hstatus]
  rfl

/-- The record a SEND state emits (R62 to R64); elsewhere there is none. -/
def State.record (s : State) : List Byte :=
  match s.st with
  | .recvCbw => []
  | .processCbw => []
  | .sendCapacity => capRecord s.cfg
  | .sendData => (List.range s.cfg.blockSize).map s.dataRec
  | .sendCsw => s.cswRecord

theorem State.record_capacity {s : State} (hs : s.st = .sendCapacity) : s.record = capacityBytes s.cfg := by
  simp only [State.record, hs]
  rfl

theorem State.record_data {s : State} (hs : s.st = .sendData) : s.record = dataBytes s.cfg s.cbw := by
  simp only [State.record, hs]
  rfl

theorem State.record_csw {s : State} (hs : s.st = .sendCsw) : s.record = s.cswRecord := by
  simp only [State.record, hs]

@[simp] theorem State.length_record (s : State) : s.record.length = s.recLen := by
  rcases hst : s.st with _ | _ | _ | _ | _ <;> simp [State.record, State.recLen, hst]

/-- R161: a SEND state offers the byte of its record at the cursor. -/
theorem State.txData_eq_record {s : State} (hc : s.txCur < s.record.length) :
    s.txData = s.record[s.txCur] := by
  have hbyte : byteAt s.record s.txCur = s.record[s.txCur] := List.getD_eq_getElem _ _ hc
  rw [State.length_record] at hc
  rw [← hbyte]
  rcases hst : s.st with _ | _ | _ | _ | _ <;> simp only [State.recLen, hst] at hc
  · simp at hc
  · simp at hc
  · simp [State.txData, State.record, hst]
  · simp [State.txData, State.record, hst, byteAt, hc]
  · simp [State.txData, State.record, hst]

/-- What is left of the record is the offered byte and what is left after it. -/
theorem State.drop_record {s : State} (hc : s.txCur < s.recLen) :
    s.record.drop s.txCur = s.txData :: s.record.drop (s.txCur + 1) := by
  rw [← s.length_record] at hc
  rw [State.txData_eq_record hc, List.drop_eq_getElem_cons hc]

/-! ### The command is held (20_memory.md R61, R80) -/

/-- No command writes the buffer, the offset or the cursor. -/
theorem CommandMove.keeps_buffer {s u : State} (h : CommandMove s u) :
    u.cbw = s.cbw ∧ u.rxOff = s.rxOff ∧ u.txCur = s.txCur := by
  cases h with
  | discard | pollFails | pollPasses | notReady | capacity | data | acknowledge => exact ⟨rfl, rfl, rfl⟩

/-- Without a reset, BOT's edge writes the buffer and the offset in RECV_CBW alone. -/
theorem BotMove.keeps_buffer {b : BotIn} {s u : State} (h : BotMove b s u) (hr : b.rst = false)
    (hs : s.st ≠ .recvCbw) : u.cbw = s.cbw ∧ u.rxOff = s.rxOff := by
  cases h with
  | reset hr' => simp [hr] at hr'
  | wait _ hs' | store _ hs' | storeLast _ hs' => exact absurd hs' hs
  | command _ _ _ _ he =>
    obtain ⟨hcbw, hoff, -⟩ := (exec_command_move he).keeps_buffer
    exact ⟨hcbw, hoff⟩
  | stall | advance | finishData | finishCsw => exact ⟨rfl, rfl⟩

/-! ### The bytes sent in a run (R13) -/

theorem sentBytes_append (newer older : List BotRecord) :
    sentBytes (newer ++ older) = sentBytes older ++ sentBytes newer := by
  simp [sentBytes]

/-- `n` cycles lead from `s` to `t`, and BOT's transmit endpoint hands over exactly `bytes` in them. -/
structure RunSends (n : Nat) (s : State) (bytes : List Byte) (t : State) : Prop where
  run : runCycles n s = .next t
  log : ∃ log, t.botLog = log ++ s.botLog ∧ log.length = n ∧ sentBytes log = bytes

/-- The byte BOT hands over in the present cycle, if any (R13). -/
def State.takenBytes (s : State) : List Byte :=
  if s.st.sends && (s.botIn s.pins).txReady then [s.txData] else []

/-- Every completed step is a run of one cycle that hands over the byte taken in it. -/
theorem RunSends.of_step {s t : State} (h : step s = .next t) : RunSends 1 s s.takenBytes t := by
  obtain ⟨-, u, hm, rfl⟩ := step_next h
  refine ⟨runCycles_succ 0 h, [⟨s.botIn s.pins, s.botOut⟩], ?_, rfl, ?_⟩
  · simp [hm.sameOutsideBot.botLog]
  · rcases htaken : s.st.sends && (s.botIn s.pins).txReady with _ | _
    · simp [State.takenBytes, sentBytes, State.botOut, htaken]
    · simp [State.takenBytes, sentBytes, State.botOut, htaken]

/-- Outside the SEND states nothing is handed over. -/
theorem RunSends.of_silent_step {s t : State} (h : step s = .next t) (hs : s.st.sends = false) :
    RunSends 1 s [] t := by
  simpa [State.takenBytes, hs] using RunSends.of_step h

theorem RunSends.trans {m n : Nat} {s t u : State} {xs ys : List Byte} (h : RunSends m s xs t)
    (h' : RunSends n t ys u) : RunSends (m + n) s (xs ++ ys) u := by
  obtain ⟨hrun, log, hlog, hlen, hsent⟩ := h
  obtain ⟨hrun', log', hlog', hlen', hsent'⟩ := h'
  refine ⟨(runCycles_add m n hrun).trans hrun', log' ++ log, ?_, ?_, ?_⟩
  · rw [hlog', hlog, List.append_assoc]
  · rw [List.length_append, hlen, hlen', Nat.add_comm]
  · rw [sentBytes_append, hsent, hsent']

/-- The last `n` entries of BOT's port log hold what the run sent. -/
theorem RunSends.sentBytes_take {n : Nat} {s t : State} {bytes : List Byte} (h : RunSends n s bytes t) :
    sentBytes (t.botLog.take n) = bytes := by
  obtain ⟨-, log, hlog, hlen, hsent⟩ := h
  rw [hlog, List.take_left' hlen, hsent]

/-- A property that every step keeps, a run keeps. -/
theorem runCycles_keeps {P : State → Prop} (hstep : ∀ s t, P s → step s = .next t → P t) {n : Nat}
    {s t : State} (h : runCycles n s = .next t) (hs : P s) : P t := by
  induction n generalizing s with
  | zero =>
    cases h
    exact hs
  | succ n ih =>
    simp only [runCycles] at h
    rcases hu : step s with u | r | r <;> rw [hu] at h
    · exact ih h (hstep s u hs hu)
    · cases h
    · cases h

theorem runCycles_inv {n : Nat} {s t : State} (h : runCycles n s = .next t) (hi : s.Inv) : t.Inv :=
  runCycles_keeps Proofs.stepKeepsTheInvariants h hi

theorem runCycles_cfg {n : Nat} {s t : State} (h : runCycles n s = .next t) : t.cfg = s.cfg :=
  runCycles_keeps (P := fun u => u.cfg = s.cfg)
    (fun u v hu hv => (Proofs.configurationNeverChanges u v hv).trans hu) h rfl

/-- Nothing is sent while a CBW is received. -/
theorem Receiving.runSends {s t : State} {b : Byte} {bytes : List Byte} {ps rest : List Pins}
    (h : Receiving s (b :: bytes) ps rest) (hrun : runCycles (bytes.length + 1) s = .next t) :
    RunSends (bytes.length + 1) s [] t := by
  have hsilent : s.st.sends = false := by rw [h.state]; rfl
  induction bytes generalizing s b ps with
  | nil =>
    obtain ⟨v, hstep, -⟩ := h.step_last
    rw [List.length_nil, runCycles_succ 0 hstep] at hrun
    cases hrun
    exact .of_silent_step hstep hsilent
  | cons b' bytes ih =>
    obtain ⟨u, ps', hstep, hu, -⟩ := h.step_store
    rw [List.length_cons, runCycles_succ _ hstep] at hrun
    have htail := ih hu hrun (by rw [hu.state]; rfl)
    rw [List.length_cons, Nat.add_comm (bytes.length + 1)]
    exact (RunSends.of_silent_step hstep hsilent).trans htail

/-! ### BOT's part of the state -/

/-- The two states agree on the configuration and on BOT's registers and buffer (10_state.md R30 to R36). -/
structure SameBot (s u : State) : Prop where
  cfg : u.cfg = s.cfg
  st : u.st = s.st
  rxOff : u.rxOff = s.rxOff
  txCur : u.txCur = s.txCur
  ready : u.ready = s.ready
  polls : u.polls = s.polls
  fail : u.fail = s.fail
  cbw : u.cbw = s.cbw

theorem SameBot.trans {s u v : State} (h : SameBot s u) (h' : SameBot u v) : SameBot s v :=
  { cfg := h'.cfg.trans h.cfg
    st := h'.st.trans h.st
    rxOff := h'.rxOff.trans h.rxOff
    txCur := h'.txCur.trans h.txCur
    ready := h'.ready.trans h.ready
    polls := h'.polls.trans h.polls
    fail := h'.fail.trans h.fail
    cbw := h'.cbw.trans h.cbw }

theorem SameBot.cswRecord {s u : State} (h : SameBot s u) : u.cswRecord = s.cswRecord := by
  rw [State.cswRecord_eq, State.cswRecord_eq, h.cbw, h.fail]

theorem SameBot.record {s u : State} (h : SameBot s u) : u.record = s.record := by
  have hdata : u.dataRec = s.dataRec := by
    funext i
    simp [State.dataRec, State.lbaLo, State.cbwByte, h.cbw]
  simp [State.record, h.st, h.cfg, h.cswRecord, hdata]

theorem State.endRecord_dataPhase {s : State} (hs : s.st = .sendCapacity ∨ s.st = .sendData) :
    s.endRecord = (s.setTxCur 0).toCsw := by
  rcases hs with hs | hs <;> simp [State.endRecord, hs]

theorem State.endRecord_csw {s : State} (hs : s.st = .sendCsw) :
    s.endRecord = ((s.emit (.cswStatus s.status)).setTxCur 0).clearFail.goto .recvCbw := by
  simp [State.endRecord, hs]

/-- The end of a record leaves BOT the same wherever the cursor stood. -/
theorem SameBot.endRecord {s u : State} {n : Nat} (h : SameBot (s.setTxCur n) u) (hs : s.st.sends = true) :
    SameBot s.endRecord u.endRecord := by
  have hst : u.st = s.st := h.st
  have dataPhase (hd : s.st = .sendCapacity ∨ s.st = .sendData) : SameBot s.endRecord u.endRecord := by
    rw [State.endRecord_dataPhase hd, State.endRecord_dataPhase (hst ▸ hd)]
    exact { h with st := rfl, txCur := rfl }
  rcases hcase : s.st with _ | _ | _ | _ | _
  · simp [hcase, BotState.sends] at hs
  · simp [hcase, BotState.sends] at hs
  · exact dataPhase (.inl hcase)
  · exact dataPhase (.inr hcase)
  · rw [State.endRecord_csw hcase, State.endRecord_csw (hst.trans hcase)]
    exact { h with st := rfl, txCur := rfl, fail := rfl }

/-! ### The emission of a record (41_bot_transport.md R168 to R171) -/

/-- BOT is in a SEND state, and the next cycles take what is left of its record at once. -/
structure Emitting (s : State) (ps rest : List Pins) : Prop where
  alone : BotAlone s.cfg
  sends : s.st.sends = true
  toCome : s.txCur + ps.length = s.recLen
  accepts : Accepts ps
  calm : ∀ p ∈ ps, Calm p
  script : s.script = ps ++ rest

/-- The next cycle hands over the offered byte, whichever move it is. -/
theorem Emitting.runSends_of_move {s u : State} {p : Pins} {ps rest : List Pins}
    (h : Emitting s (p :: ps) rest) (hm : BotMove ⟨false, p.rxValid, p.rxData, p.txReady⟩ s.arbDone u) :
    RunSends 1 s [s.txData] u.endCycle := by
  have htaken : s.takenBytes = [s.txData] := by
    obtain ⟨-, hw, ht⟩ := h.alone
    rw [State.takenBytes, h.sends, State.botIn_alone hw ht, State.pins_of_script h.script]
    simp [h.accepts p (by simp)]
  exact htaken ▸ RunSends.of_step (step_alone h.alone (h.calm p (by simp)) h.script hm)

/-- R168 to R170: a byte before the last advances the cursor alone. -/
theorem Emitting.advance {s : State} {p p' : Pins} {ps rest : List Pins}
    (h : Emitting s (p :: p' :: ps) rest) :
    ∃ t, RunSends 1 s [s.txData] t ∧ SameBot (s.setTxCur (s.txCur + 1)) t ∧
      Emitting t (p' :: ps) rest := by
  have hcount := h.toCome
  simp only [List.length_cons] at hcount
  have hm := BotMove.advance (b := ⟨false, p.rxValid, p.rxData, p.txReady⟩) (s := s.arbDone) rfl
    (by simpa using h.sends) (h.accepts p (by simp))
    (by simp only [State.arbDone_txCur, State.arbDone_recLen]; omega)
  have hbot : SameBot (s.setTxCur (s.txCur + 1)) (s.arbDone.setTxCur (s.arbDone.txCur + 1)).endCycle := by
    constructor <;> simp
  have hlen : (s.arbDone.setTxCur (s.arbDone.txCur + 1)).endCycle.recLen = s.recLen := by
    rw [← State.length_record, hbot.record, State.length_record]
    rfl
  refine ⟨_, h.runSends_of_move hm, hbot, ?_⟩
  exact
    { alone := by simpa using h.alone
      sends := by simpa using h.sends
      toCome := by
        rw [hlen, hbot.txCur, State.setTxCur_txCur, List.length_cons]
        omega
      accepts := fun q hq => h.accepts q (List.mem_cons_of_mem _ hq)
      calm := fun q hq => h.calm q (List.mem_cons_of_mem _ hq)
      script := by simp [h.script] }

/-- R168, R169, R171: the last byte ends the record. -/
theorem Emitting.finish {s : State} {p : Pins} {rest : List Pins} (h : Emitting s [p] rest) :
    ∃ t, RunSends 1 s [s.txData] t ∧ SameBot s.endRecord t ∧ t.script = rest := by
  have hcount : s.txCur + 1 = s.recLen := h.toCome
  have hm := State.transmit_move (b := ⟨false, p.rxValid, p.rxData, p.txReady⟩) (s := s.arbDone) rfl
    (by simpa using h.sends)
  have hbot : SameBot s.endRecord s.arbDone.endRecord :=
    SameBot.endRecord (n := s.txCur) (by constructor <;> simp) h.sends
  rw [State.transmit_last (h.accepts p (by simp))
    (by simp only [State.arbDone_txCur, State.arbDone_recLen]; omega)] at hm
  refine ⟨_, h.runSends_of_move hm, { hbot with }, ?_⟩
  simp [hm.sameOutsideBot.script, h.script]

/-- R168 to R171 over what is left of a record, by induction on the cycles that take it. -/
theorem Emitting.run {s : State} {p : Pins} {ps rest : List Pins} (h : Emitting s (p :: ps) rest) :
    ∃ t, RunSends (ps.length + 1) s (s.record.drop s.txCur) t ∧ SameBot s.endRecord t ∧
      t.script = rest := by
  induction ps generalizing s p with
  | nil =>
    have hcount : s.txCur + 1 = s.recLen := h.toCome
    obtain ⟨t, hsends, hend⟩ := h.finish
    rw [State.drop_record (by omega), List.drop_of_length_le (by simp [hcount])]
    exact ⟨t, hsends, hend⟩
  | cons p' ps ih =>
    have hcount : s.txCur + (ps.length + 1 + 1) = s.recLen := h.toCome
    obtain ⟨u, hfirst, hu, hrest⟩ := h.advance
    obtain ⟨t, hsends, hbot, hscript⟩ := ih hrest
    have hcur : u.txCur = s.txCur + 1 := hu.txCur
    have hrecord : u.record = s.record := hu.record
    rw [hrecord, hcur] at hsends
    rw [State.drop_record (by omega), List.length_cons, Nat.add_comm (ps.length + 1)]
    exact ⟨t, hfirst.trans hsends, (hu.endRecord h.sends).trans hbot, hscript⟩

/-! ### The answer to a command (20_memory.md R76) -/

/-- The bytes BOT still has to send before it awaits the next CBW, its cursor at the start of a record. -/
def State.answer (s : State) : List Byte :=
  match s.st with
  | .recvCbw => []
  | .processCbw => []
  | .sendCapacity => s.record ++ s.cswRecord
  | .sendData => s.record ++ s.cswRecord
  | .sendCsw => s.cswRecord

@[simp] theorem State.endCycle_answer (s : State) : s.endCycle.answer = s.answer := rfl

theorem State.answer_dataPhase {s : State} (hs : s.st = .sendCapacity ∨ s.st = .sendData) :
    s.answer = s.record ++ s.cswRecord := by
  rcases hs with hs | hs <;> simp [State.answer, hs]

/-- BOT stands at the start of its answer, and the next cycles take all of it at once. -/
structure Answering (s : State) (ps rest : List Pins) : Prop where
  alone : BotAlone s.cfg
  started : s.st ≠ .processCbw
  offset : s.rxOff = 0
  cursor : s.txCur = 0
  fail : s.st = .recvCbw → s.fail = false
  toCome : ps.length = s.answer.length
  accepts : Accepts ps
  calm : ∀ p ∈ ps, Calm p
  script : s.script = ps ++ rest

/-- `t` awaits the next CBW, with what `s` held otherwise. -/
structure Answered (s : State) (rest : List Pins) (t : State) : Prop where
  awaits : AwaitsCbw t
  buffer : t.cbw = s.cbw
  ready : t.ready = s.ready
  polls : t.polls = s.polls
  script : t.script = rest

/-- A whole record is emitted from its start. -/
theorem Emitting.run_record {s : State} {ps rest : List Pins} (h : Emitting s ps rest) (hcur : s.txCur = 0) :
    ∃ t, RunSends ps.length s s.record t ∧ SameBot s.endRecord t ∧ t.script = rest := by
  cases ps with
  | nil =>
    have hpos := State.recLen_pos h.alone.1 h.sends
    have hcount : s.txCur + 0 = s.recLen := h.toCome
    omega
  | cons p ps => simpa [hcur] using h.run

theorem Answering.run_csw {s : State} {ps rest : List Pins} (h : Answering s ps rest)
    (hs : s.st = .sendCsw) : ∃ t, RunSends ps.length s s.cswRecord t ∧ Answered s rest t := by
  have hrecord : s.record = s.cswRecord := State.record_csw hs
  have hemit : Emitting s ps rest :=
    { h with
      sends := by simp [hs, BotState.sends]
      toCome := by simp [h.cursor, h.toCome, State.answer, State.recLen, hs] }
  obtain ⟨t, hsends, hbot, hscript⟩ := hemit.run_record h.cursor
  rw [State.endRecord_csw hs] at hbot
  refine ⟨t, hrecord ▸ hsends, ?_⟩
  exact
    { awaits := ⟨hbot.st, hbot.rxOff.trans h.offset, hbot.txCur, hbot.fail⟩
      buffer := hbot.cbw
      ready := hbot.ready
      polls := hbot.polls
      script := hscript }

/-- A data phase is its record, and then the CSW. -/
theorem Answering.run_dataPhase {s : State} {ps rest : List Pins} (h : Answering s ps rest)
    (hs : s.st = .sendCapacity ∨ s.st = .sendData) :
    ∃ t, RunSends ps.length s (s.record ++ s.cswRecord) t ∧ Answered s rest t := by
  have hcount := h.toCome
  rw [State.answer_dataPhase hs, List.length_append, s.length_record] at hcount
  have hsplit : ps.take s.recLen ++ ps.drop s.recLen = ps := List.take_append_drop _ _
  have hemit : Emitting s (ps.take s.recLen) (ps.drop s.recLen ++ rest) :=
    { alone := h.alone
      sends := by rcases hs with hs | hs <;> simp [hs, BotState.sends]
      toCome := by rw [h.cursor, List.length_take]; omega
      accepts := fun p hp => h.accepts p (List.mem_of_mem_take hp)
      calm := fun p hp => h.calm p (List.mem_of_mem_take hp)
      script := by rw [← List.append_assoc, hsplit, h.script] }
  obtain ⟨u, hdata, hu, hscript⟩ := hemit.run_record h.cursor
  rw [State.endRecord_dataPhase hs] at hu
  have hst : u.st = .sendCsw := hu.st
  have hcsw : u.cswRecord = s.cswRecord := hu.cswRecord
  have hrest : Answering u (ps.drop s.recLen) rest :=
    { alone := hu.cfg ▸ h.alone
      started := by simp [hst]
      offset := hu.rxOff.trans h.offset
      cursor := hu.txCur
      fail := by simp [hst]
      toCome := by simp [State.answer, hst, hcount]
      accepts := fun p hp => h.accepts p (List.mem_of_mem_drop hp)
      calm := fun p hp => h.calm p (List.mem_of_mem_drop hp)
      script := hscript }
  obtain ⟨t, hsends, ht⟩ := hrest.run_csw hst
  have hall := hdata.trans hsends
  rw [← List.length_append, hsplit, hcsw] at hall
  refine ⟨t, hall, ?_⟩
  exact
    { ht with
      buffer := ht.buffer.trans hu.cbw
      ready := ht.ready.trans hu.ready
      polls := ht.polls.trans hu.polls }

/-- R76: the whole answer is sent, and the next CBW awaited. -/
theorem Answering.run {s : State} {ps rest : List Pins} (h : Answering s ps rest) :
    ∃ t, RunSends ps.length s s.answer t ∧ Answered s rest t := by
  rcases hst : s.st with _ | _ | _ | _ | _
  · have hanswer : s.answer = [] := by simp [State.answer, hst]
    have hps : ps = [] := List.eq_nil_of_length_eq_zero (by rw [h.toCome, hanswer]; rfl)
    subst hps
    exact ⟨s, ⟨rfl, [], rfl, rfl, hanswer.symm⟩,
      ⟨⟨hst, h.offset, h.cursor, h.fail hst⟩, rfl, rfl, rfl, h.script⟩⟩
  · exact absurd hst h.started
  · rw [State.answer_dataPhase (.inl hst)]
    exact h.run_dataPhase (.inl hst)
  · rw [State.answer_dataPhase (.inr hst)]
    exact h.run_dataPhase (.inr hst)
  · have hanswer : s.answer = s.cswRecord := by simp [State.answer, hst]
    exact hanswer ▸ h.run_csw hst

/-! ### The command decides the answer (20_memory.md R76, 42_scsi_commands.md R224) -/

section Response
variable {cfg : Config} {ready : Bool} {polls : Nat} {cbw : List Byte}

theorem response_unsigned (hsig : signed cbw = false) : response cfg ready polls cbw = [] := if_pos hsig

theorem response_testUnitReady (hsig : signed cbw = true) (hop : byteAt cbw 15 = 0x00) :
    response cfg ready polls cbw = cswBytes cbw (if polls < 2 then 0x01 else 0x00) := by
  simp [response, hsig, hop]

theorem response_notReady (hsig : signed cbw = true) (hop : byteAt cbw 15 = 0x25 ∨ byteAt cbw 15 = 0x28) :
    response cfg false polls cbw = cswBytes cbw 0x01 := by
  rcases hop with hop | hop <;> simp [response, hsig, hop]

theorem response_capacity (hsig : signed cbw = true) (hop : byteAt cbw 15 = 0x25) :
    response cfg true polls cbw = capacityBytes cfg ++ cswBytes cbw 0x00 := by
  simp [response, hsig, hop]

theorem response_data (hsig : signed cbw = true) (hop : byteAt cbw 15 = 0x28) :
    response cfg true polls cbw = dataBytes cfg cbw ++ cswBytes cbw 0x00 := by
  simp [response, hsig, hop]

theorem response_other (hsig : signed cbw = true)
    (hop : byteAt cbw 15 ≠ 0x00 ∧ byteAt cbw 15 ≠ 0x25 ∧ byteAt cbw 15 ≠ 0x28) :
    response cfg ready polls cbw = cswBytes cbw 0x00 := by
  obtain ⟨h0, h1, h2⟩ := hop
  rw [response, if_neg (by simp [hsig]), if_neg h0, if_neg h1, if_neg h2]

end Response

/-- R76, R224: after the command BOT stands at the start of the answer the rules give. -/
theorem CommandMove.answer_eq {s u : State} (h : CommandMove s u) (hf : s.fail = false) :
    u.answer = response s.cfg s.ready s.polls s.cbw := by
  have hpassed : s.cswRecord = cswBytes s.cbw 0x00 := by simp [State.cswRecord_eq, hf]
  have hfailed : s.markFailed.cswRecord = cswBytes s.cbw 0x01 := by simp [State.cswRecord_eq]
  cases h with
  | discard hg =>
    rw [response_unsigned (by simpa using mt (signed_iff s.cbw).1 hg)]
    rfl
  | pollFails hg ho hp =>
    rw [response_testUnitReady ((signed_iff _).2 hg) ho, if_pos (show s.polls < 2 from hp)]
    exact hfailed
  | pollPasses hg ho hp =>
    rw [response_testUnitReady ((signed_iff _).2 hg) ho, if_neg (show ¬ s.polls < 2 from hp)]
    exact hpassed
  | notReady hg op ho hop hr =>
    subst ho
    rw [hr, response_notReady ((signed_iff _).2 hg) hop]
    exact hfailed
  | capacity hg ho hr =>
    rw [State.answer_dataPhase (.inl rfl), State.record_capacity rfl, hr,
      response_capacity ((signed_iff _).2 hg) ho]
    exact congrArg _ hpassed
  | data hg ho hr =>
    rw [State.answer_dataPhase (.inr rfl), State.record_data rfl, hr, response_data ((signed_iff _).2 hg) ho]
    exact congrArg _ hpassed
  | acknowledge hg op ho hop =>
    subst ho
    rw [response_other ((signed_iff _).2 hg) hop]
    exact hpassed

/-- What the command in the buffer of `s` decides in `u`: the answer of R76 and R224, and the flags of
R201. -/
structure Dispatched (s u : State) : Prop where
  answer : u.answer = response s.cfg s.ready s.polls s.cbw
  polls : u.polls =
    if signed s.cbw = true ∧ byteAt s.cbw 15 = 0x00 ∧ s.polls < 2 then s.polls + 1 else s.polls
  ready : u.ready =
    if signed s.cbw = true ∧ byteAt s.cbw 15 = 0x00 ∧ ¬ s.polls < 2 then true else s.ready

/-- TEST_UNIT_READY alone writes the poll counter, below its limit, or the latch, at it. -/
theorem CommandMove.dispatched {s u : State} (h : CommandMove s u) (hf : s.fail = false) :
    Dispatched s u := by
  have hanswer := h.answer_eq hf
  have noPoll (hpolls : u.polls = s.polls) (hready : u.ready = s.ready)
      (hop : recordOpcode s.cbw ≠ 0x00) : Dispatched s u :=
    { answer := hanswer
      polls := by rw [hpolls, if_neg fun ⟨_, hc, _⟩ => hop hc]
      ready := by rw [hready, if_neg fun ⟨_, hc, _⟩ => hop hc] }
  cases h with
  | discard hg =>
    have hsig : ¬ signed s.cbw = true := mt (signed_iff s.cbw).1 hg
    exact ⟨hanswer, (if_neg fun ⟨hc, _⟩ => hsig hc).symm, (if_neg fun ⟨hc, _⟩ => hsig hc).symm⟩
  | pollFails hg ho hp =>
    exact ⟨hanswer, (if_pos ⟨(signed_iff _).2 hg, ho, hp⟩).symm, (if_neg fun ⟨_, _, hc⟩ => hc hp).symm⟩
  | pollPasses hg ho hp =>
    exact ⟨hanswer, (if_neg fun ⟨_, _, hc⟩ => hp hc).symm, (if_pos ⟨(signed_iff _).2 hg, ho, hp⟩).symm⟩
  | notReady _ op ho hop => exact noPoll rfl rfl (by rcases hop with rfl | rfl <;> rw [ho] <;> decide)
  | capacity _ ho | data _ ho => exact noPoll rfl rfl (by rw [ho]; decide)
  | acknowledge _ op ho hop => exact noPoll rfl rfl (ho ▸ hop.1)

/-- R167: PROCESS_CBW is left at once, and a discarded CBW leaves `fail` alone. -/
theorem CommandMove.leaves_processCbw {s u : State} (h : CommandMove s u) :
    u.st ≠ .processCbw ∧ (u.st = .recvCbw → u.fail = s.fail) := by
  cases h with
  | discard => exact ⟨by simp, fun _ => rfl⟩
  | pollFails | pollPasses | notReady | capacity | data | acknowledge => exact ⟨by simp, by simp⟩

/-- R166, R167: the PROCESS_CBW cycle sends nothing, and leaves BOT at the start of its answer. -/
theorem run_dispatch {s : State} {process : Pins} {answer rest : List Pins} (halone : BotAlone s.cfg)
    (hi : s.Inv) (hs : s.st = .processCbw) (hscript : s.script = process :: (answer ++ rest))
    (hprocess : Calm process) (hcalm : ∀ p ∈ answer, Calm p) (haccepts : Accepts answer)
    (hlen : answer.length = (response s.cfg s.ready s.polls s.cbw).length) :
    ∃ u, RunSends 1 s [] u ∧ Answering u answer rest ∧ Dispatched s u ∧ u.cbw = s.cbw := by
  obtain ⟨v, hexec, hmove⟩ := exec_command s.arbDone
  have hlength : s.cbw.length = 25 ∨ s.cbw.length = 31 := hi.bufferLength ▸ configValid_cbwLen halone.1
  have hm := BotMove.command (b := ⟨false, process.rxValid, process.rxData, process.txReady⟩) rfl
    (by simpa using hs) (by simpa using hlength) v hexec
  have hstep := step_alone halone hprocess hscript hm
  have hfail : s.arbDone.fail = false := by simpa using hi.failOnlyInCsw (by simp [hs])
  have hv : Dispatched s.arbDone v := hmove.dispatched hfail
  have hd : Dispatched s v.endCycle :=
    { answer := by simpa using hv.answer
      polls := by simpa using hv.polls
      ready := by simpa using hv.ready }
  obtain ⟨hcbw, hoff, hcur⟩ := hmove.keeps_buffer
  obtain ⟨hstarted, hkeeps⟩ := hmove.leaves_processCbw
  have hframe := hmove.sameOutsideBot
  refine ⟨_, .of_silent_step hstep (by rw [hs]; rfl), ?_, hd, by simpa using hcbw⟩
  exact
    { alone := by simpa [hframe.cfg] using halone
      started := hstarted
      offset := by simpa [hoff] using hi.offsetZero (by simp [hs])
      cursor := by simpa [hcur] using hi.cursorZero (.inr hs)
      fail := fun hrecv => (hkeeps hrecv).trans hfail
      toCome := by rw [hlen, hd.answer]
      accepts := haccepts
      calm := hcalm
      script := by simp [hframe.script, hscript] }

/-- R162, R163: a machine that awaits a CBW receives it and sends nothing meanwhile. -/
theorem run_receive {s : State} {bytes : List Byte} {ps rest : List Pins} (halone : BotAlone s.cfg)
    (hawaits : AwaitsCbw s) (hbuffer : s.cbw.length = s.cfg.cbwLen) (hlen : bytes.length = s.cfg.cbwLen)
    (hfeeds : Feeds bytes ps) (hcalm : ∀ p ∈ ps, Calm p) (hscript : s.script = ps ++ rest) :
    ∃ t, RunSends s.cfg.cbwLen s [] t ∧ t.cbw = bytes ∧ t.st = .processCbw ∧ t.ready = s.ready ∧
      t.polls = s.polls ∧ t.script = rest := by
  obtain ⟨t, hrun, hcbw, hst, -, hready, hpolls, -, hrest⟩ :=
    Proofs.wholeCbwIsReceived s bytes ps rest halone hawaits hbuffer hlen hfeeds hcalm hscript
  refine ⟨t, ?_, hcbw, hst, hready, hpolls, hrest⟩
  obtain ⟨hrecv, hoff, -, -⟩ := hawaits
  cases bytes with
  | nil =>
    have := configValid_cbwLen halone.1
    rw [List.length_nil] at hlen
    omega
  | cons b bytes =>
    have hreceiving : Receiving s (b :: bytes) ps rest :=
      ⟨halone, hrecv, by rw [hoff, hlen, Nat.zero_add], hbuffer, hfeeds, hcalm, hscript⟩
    rw [← hlen] at hrun ⊢
    exact hreceiving.runSends hrun

end Sys2Proof.Machine

namespace Sys2Proof.Proofs

open Sys2Proof.Machine Sys2Proof.Claims

/-- Settles O40: outside RECV_CBW no move of BOT's edge but a reset writes the buffer or the offset. -/
theorem commandIsHeldUntilAnswered : Obligations.CommandIsHeldUntilAnswered := by
  intro s t h hs hr
  obtain ⟨-, u, hm, rfl⟩ := step_next h
  obtain ⟨hcbw, hoff⟩ := hm.keeps_buffer hr (by simpa using hs)
  exact ⟨fun a => by simp [State.cbwByte, hcbw], by simp [hoff]⟩

/-- Settles O53: the fields are the words of R62, and R8's ranges fit both numbers in 32 bits. -/
theorem capacityRecordValues : Obligations.CapacityRecordValues := by
  intro cfg hv
  rw [configValid_iff] at hv
  obtain ⟨hlba, hsize⟩ := capRecord_fields cfg
  refine ⟨rfl, ?_, ?_⟩
  · rw [hlba, lastLba, BitVec.toNat_ofNat, Nat.mod_eq_of_lt (by omega)]
  · rw [hsize, BitVec.toNat_ofNat, Nat.mod_eq_of_lt (by omega)]

/-- Settles O54: R64's bytes, the status being the fail flag's. -/
theorem cswRecordContents : Obligations.CswRecordContents := State.cswRecord_eq

/-- Settles O56: the data phase is the emission of the record of R63 from its start. -/
theorem dataBlockIsTheXorPattern : Obligations.DataBlockIsTheXorPattern := by
  intro s ps rest halone hs hcur hlen haccepts hcalm hscript
  have hemit : Emitting s ps rest :=
    { alone := halone
      sends := by rw [hs]; rfl
      toCome := by simp [hcur, hlen, State.recLen, hs]
      accepts := haccepts
      calm := hcalm
      script := hscript }
  obtain ⟨t, hsends, hbot, -⟩ := hemit.run_record hcur
  rw [State.record_data hs, hlen] at hsends
  rw [State.endRecord_dataPhase (.inr hs)] at hbot
  exact ⟨t, hsends.run, hsends.sentBytes_take, hbot.st, hbot.txCur, hbot.cbw, hbot.fail⟩

/-- Settles O57: the receipt, the PROCESS_CBW cycle and the answer, one run after the other. -/
theorem everyCommandIsAnsweredInFull : Obligations.EveryCommandIsAnsweredInFull := by
  rintro s cbw _ rest halone hi hawaits
    ⟨receive, process, answer, rfl, hcalm, hlen, hfeeds, haccepts, hanswer⟩ hscript
  have hreceive : receive.length = s.cfg.cbwLen := by
    have hcount := congrArg List.length hfeeds
    simpa [hlen] using hcount
  obtain ⟨t, hreceived, rfl, hst, hready, hpolls, hrest⟩ :=
    run_receive halone hawaits hi.bufferLength hlen hfeeds (fun p hp => hcalm p (by simp [hp]))
      (hscript.trans (List.append_assoc ..))
  have hcfg : t.cfg = s.cfg := runCycles_cfg hreceived.run
  obtain ⟨u, hprocessed, hu, hd, hcbw⟩ :=
    run_dispatch (hcfg ▸ halone) (runCycles_inv hreceived.run hi) hst hrest (hcalm process (by simp))
      (fun p hp => hcalm p (by simp [hp])) haccepts (by rw [hanswer, hcfg, hready, hpolls])
  obtain ⟨v, hanswered, hv⟩ := hu.run
  have hall := (hreceived.trans hprocessed).trans hanswered
  rw [hd.answer, hcfg, hready, hpolls, hanswer] at hall
  have hcycles : (receive ++ process :: answer).length =
      s.cfg.cbwLen + 1 + (response s.cfg s.ready s.polls t.cbw).length := by
    rw [List.length_append, List.length_cons, hreceive, hanswer]
    omega
  rw [hcycles]
  refine ⟨v, hall.run, rfl, hall.sentBytes_take, hv.awaits, hv.buffer.trans hcbw, hv.script, ?_, ?_⟩
  · rw [hv.polls, hd.polls, hpolls]
  · rw [hv.ready, hd.ready, hpolls, hready]

end Sys2Proof.Proofs
end

section
/-!
PROOFS. The statements of spec/30_encoding.md: both decoders against the encoder (R91, R93, R101, R104,
R109), the signature check (R92), the opcode map (R105), the record lengths (R107), and the codes of the
observed signals (R100, R102).
-/

namespace Sys2Proof

/-! ### BOT's decoder: the record lengths it accepts (R91, R107) -/

section Record
variable {cfg : Config} {bytes : List Byte}

theorem decodeCbw_ok (hl : bytes.length = 25 ∨ bytes.length = 31) :
    decodeCbw bytes = .ok (decodeCommand bytes) := if_pos hl

theorem decodeCbw_error (hl : ¬ (bytes.length = 25 ∨ bytes.length = 31)) :
    decodeCbw bytes = .error (.cbwLength bytes.length) := if_neg hl

theorem decodeCbw_eq_ok_iff {i : Instr} :
    decodeCbw bytes = .ok i ↔ (bytes.length = 25 ∨ bytes.length = 31) ∧ decodeCommand bytes = i := by
  by_cases hl : bytes.length = 25 ∨ bytes.length = 31
  · simp [decodeCbw_ok hl, hl]
  · simp [decodeCbw_error hl, hl]

theorem CbwFields.wf_iff (c : CbwFields) :
    c.wf cfg = true ↔ (cfg.cbwLen = 25 ∨ cfg.cbwLen = 31) ∧ c.pad.length + 25 = cfg.cbwLen := by
  simp [CbwFields.wf]

/-- The record of well-formed fields is accepted, whatever its signature and operation code. -/
theorem decode_encodeCbw {c : CbwFields} (hc : c.wf cfg = true) (signature : Word32) (opcode : Byte) :
    decode cfg (.cbw (encodeCbw signature opcode c)) =
      .ok (decodeCommand (encodeCbw signature opcode c)) := by
  obtain ⟨hlen, hpad⟩ := c.wf_iff.1 hc
  exact decodeCbw_ok (by rwa [length_encodeCbw, hpad])

/-- The fields read from a record of CBW_LEN bytes are well-formed. -/
theorem recordFields_wf (hl : bytes.length = 25 ∨ bytes.length = 31) (hcfg : bytes.length = cfg.cbwLen) :
    (recordFields bytes).wf cfg = true := by
  rw [CbwFields.wf_iff, ← hcfg]
  refine ⟨hl, ?_⟩
  simp only [recordFields, List.length_drop]
  omega

/-! ### BOT's decoder against the encoder, along the chain of R105 -/

/-- A discarded CBW is well-formed when its signature fails R105's first test. -/
theorem Instr.wf_badSignature_iff {signature : Word32} {opcode : Byte} {c : CbwFields} :
    (Instr.badSignature signature opcode c).wf cfg = true ↔ signature ≠ cbwMagic ∧ c.wf cfg = true := by
  simp [Instr.wf, cbwMagic]

/-- An unrecognised command is well-formed when its opcode fails R104's three tests. -/
theorem Instr.wf_other_iff {opcode : Byte} {c : CbwFields} :
    (Instr.other opcode c).wf cfg = true ↔
      (opcode ≠ opTestUnitReady ∧ opcode ≠ opReadCapacity10 ∧ opcode ≠ opRead10) ∧ c.wf cfg = true := by
  simp [Instr.wf, opTestUnitReady, opReadCapacity10, opRead10, and_assoc]

/-- Whichever command a record decodes to, it is encoded with the record's own signature and opcode. -/
theorem encode_decodeCommand :
    encode (decodeCommand bytes) =
      .cbw (encodeCbw (recordSignature bytes) (recordOpcode bytes) (recordFields bytes)) := by
  unfold decodeCommand
  split_ifs with hg h0 h1 h2
  · rfl
  · rw [h0, not_not.1 hg]; rfl
  · rw [h1, not_not.1 hg]; rfl
  · rw [h2, not_not.1 hg]; rfl
  · rw [not_not.1 hg]; rfl

/-- Each branch's tests are the match condition of the command it answers. -/
theorem decodeCommand_wf (hf : (recordFields bytes).wf cfg = true) : (decodeCommand bytes).wf cfg = true := by
  unfold decodeCommand
  split_ifs with hg h0 h1 h2
  · exact Instr.wf_badSignature_iff.2 ⟨hg, hf⟩
  · exact hf
  · exact hf
  · exact hf
  · exact Instr.wf_other_iff.2 ⟨⟨h0, h1, h2⟩, hf⟩

end Record

/-! ### ARB's decoder: the conditions of R121 -/

theorem chirpTx_iff (x : SideIn) : chirpTx x = true ↔ x.opMode = .chirp ∧ x.txValid = true := by
  simp [chirpTx]

theorem hostResetDriven_iff (r : Bool) (h : SideIn) :
    hostResetDriven r h = true ↔ h.opMode = .rawDrive ∧ (r = true → h.txValid = true) := by
  cases r <;> simp [hostResetDriven]

/-- R109's column `chirps` is R121's `chirp_tx`. -/
theorem SideIn.chirps_eq (x : SideIn) : x.chirps = chirpTx x := rfl

/-- R109's columns of HOST_RESET are R121's `host_reset`. -/
theorem SideIn.drivesReset_eq (cfg : Config) (x : SideIn) :
    x.drivesReset cfg = hostResetDriven cfg.resetRequiresTxValid x := by
  simp [SideIn.drivesReset, hostResetDriven, Bool.or_comm]

theorem contract_of_chirpTx {x : SideIn} (hx : chirpTx x = true) : x.contract = true := by
  obtain ⟨hmode, -⟩ := (chirpTx_iff x).1 hx
  simp [SideIn.contract, hmode]

theorem contract_of_hostResetDriven {r : Bool} {x : SideIn} (hx : hostResetDriven r x = true) :
    x.contract = true := by
  obtain ⟨hmode, -⟩ := (hostResetDriven_iff r x).1 hx
  simp [SideIn.contract, hmode]

/-- A side in RAW_DRIVE mode is not in CHIRP mode. -/
theorem chirpTx_of_hostResetDriven {r : Bool} {x : SideIn} (hx : hostResetDriven r x = true) :
    chirpTx x = false := by
  obtain ⟨hmode, -⟩ := (hostResetDriven_iff r x).1 hx
  simp [chirpTx, hmode]

theorem chirpTx_of_silent {x : SideIn} (hx : x.txValid = false) : chirpTx x = false := by
  simp [chirpTx, hx]

/-! ### ARB's priority chain, case by case (40_link_arbiter.md R127, R132) -/

section Chain
variable {r : Bool} {h d : SideIn}

theorem decodeArb_reservedOpmode (hc : ¬ (h.contract = true ∧ d.contract = true)) :
    decodeArb r h d = .reservedOpmode h d := by
  rw [Machine.contract_iff, Machine.contract_iff] at hc
  exact if_pos (by tauto)

/-- Within the contract the first test of the chain fails. -/
theorem decodeArb_inContract (hh : h.contract = true) (hd : d.contract = true) :
    decodeArb r h d =
      if chirpTx d then if d.txData = 0 then .devChirpK h d else .devChirpJ h d
      else if chirpTx h then .hostChirp h d
      else if hostResetDriven r h then .hostReset h d
      else if h.txValid || d.txValid then .packet h d
      else .idle h d := by
  rw [Machine.contract_iff] at hh hd
  exact if_neg (by tauto)

theorem decodeArb_devChirpK (hh : h.contract = true) (hd : chirpTx d = true) (hz : d.txData = 0) :
    decodeArb r h d = .devChirpK h d := by
  rw [decodeArb_inContract hh (contract_of_chirpTx hd), if_pos hd, if_pos hz]

theorem decodeArb_devChirpJ (hh : h.contract = true) (hd : chirpTx d = true) (hz : d.txData ≠ 0) :
    decodeArb r h d = .devChirpJ h d := by
  rw [decodeArb_inContract hh (contract_of_chirpTx hd), if_pos hd, if_neg hz]

theorem decodeArb_hostChirp (hd : d.contract = true) (hdc : chirpTx d = false) (hhc : chirpTx h = true) :
    decodeArb r h d = .hostChirp h d := by
  simp [decodeArb_inContract (contract_of_chirpTx hhc) hd, hdc, hhc]

theorem decodeArb_hostReset (hd : d.contract = true) (hdc : chirpTx d = false)
    (hr : hostResetDriven r h = true) : decodeArb r h d = .hostReset h d := by
  simp [decodeArb_inContract (contract_of_hostResetDriven hr) hd, hdc, chirpTx_of_hostResetDriven hr, hr]

theorem decodeArb_packet (hh : h.contract = true) (hd : d.contract = true) (hdc : chirpTx d = false)
    (hhc : chirpTx h = false) (hr : hostResetDriven r h = false) (hv : (h.txValid || d.txValid) = true) :
    decodeArb r h d = .packet h d := by
  rw [decodeArb_inContract hh hd, if_neg (by simp [hdc]), if_neg (by simp [hhc]), if_neg (by simp [hr]),
    if_pos hv]

theorem decodeArb_idle (hh : h.contract = true) (hd : d.contract = true)
    (hr : hostResetDriven r h = false) (hhv : h.txValid = false) (hdv : d.txValid = false) :
    decodeArb r h d = .idle h d := by
  simp [decodeArb_inContract hh hd, chirpTx_of_silent hhv, chirpTx_of_silent hdv, hr, hhv, hdv]

/-- Whichever case the inputs are, it carries both sides' inputs whole. -/
theorem encode_decodeArb : encode (decodeArb r h d) = .arbIn (encodeArb h d) := by
  unfold decodeArb
  split_ifs <;> rfl

/-- An arbitration word decodes to the case of the two sides it was packed from. -/
theorem decode_encodeArb (cfg : Config) :
    decode cfg (.arbIn (encodeArb h d)) = .ok (decodeArb cfg.resetRequiresTxValid h d) := by
  rw [decode, hostSide_encodeArb, deviceSide_encodeArb]

end Chain

/-! ### ARB's match conditions of R109, in the terms of R121 -/

section MatchConditions
variable {cfg : Config} {h d : SideIn}

theorem Instr.wf_devChirpK_iff :
    (Instr.devChirpK h d).wf cfg = true ↔ h.contract = true ∧ chirpTx d = true ∧ d.txData = 0 := by
  simp [Instr.wf, SideIn.chirps_eq, and_assoc]

theorem Instr.wf_devChirpJ_iff :
    (Instr.devChirpJ h d).wf cfg = true ↔ h.contract = true ∧ chirpTx d = true ∧ d.txData ≠ 0 := by
  simp [Instr.wf, SideIn.chirps_eq, and_assoc]

theorem Instr.wf_hostChirp_iff :
    (Instr.hostChirp h d).wf cfg = true ↔ d.contract = true ∧ chirpTx d = false ∧ chirpTx h = true := by
  simp [Instr.wf, SideIn.chirps_eq, and_assoc]

theorem Instr.wf_hostReset_iff :
    (Instr.hostReset h d).wf cfg = true ↔
      d.contract = true ∧ chirpTx d = false ∧ hostResetDriven cfg.resetRequiresTxValid h = true := by
  simp [Instr.wf, SideIn.chirps_eq, SideIn.drivesReset_eq, and_assoc]

theorem Instr.wf_packet_iff :
    (Instr.packet h d).wf cfg = true ↔
      h.contract = true ∧ d.contract = true ∧ chirpTx d = false ∧ chirpTx h = false ∧
        hostResetDriven cfg.resetRequiresTxValid h = false ∧ (h.txValid || d.txValid) = true := by
  simp [Instr.wf, SideIn.chirps_eq, SideIn.drivesReset_eq, and_assoc]

theorem Instr.wf_idle_iff :
    (Instr.idle h d).wf cfg = true ↔
      h.contract = true ∧ d.contract = true ∧ hostResetDriven cfg.resetRequiresTxValid h = false ∧
        h.txValid = false ∧ d.txValid = false := by
  simp [Instr.wf, SideIn.drivesReset_eq, and_assoc]

theorem Instr.wf_reservedOpmode_iff :
    (Instr.reservedOpmode h d).wf cfg = true ↔ ¬ (h.contract = true ∧ d.contract = true) := by
  simp [Instr.wf, imp_iff_not_or]

end MatchConditions

/-- Each branch's tests are the match condition of the case it answers (R109). -/
theorem decodeArb_wf (cfg : Config) (h d : SideIn) :
    (decodeArb cfg.resetRequiresTxValid h d).wf cfg = true := by
  by_cases hc : h.contract = true ∧ d.contract = true
  · obtain ⟨hh, hd⟩ := hc
    rw [decodeArb_inContract hh hd]
    split_ifs with hdc hz hhc hr hv
    · exact Instr.wf_devChirpK_iff.2 ⟨hh, hdc, hz⟩
    · exact Instr.wf_devChirpJ_iff.2 ⟨hh, hdc, hz⟩
    · exact Instr.wf_hostChirp_iff.2 ⟨hd, by simpa using hdc, hhc⟩
    · exact Instr.wf_hostReset_iff.2 ⟨hd, by simpa using hdc, hr⟩
    · exact Instr.wf_packet_iff.2
        ⟨hh, hd, by simpa using hdc, by simpa using hhc, by simpa using hr, hv⟩
    · obtain ⟨hhv, hdv⟩ : h.txValid = false ∧ d.txValid = false := by simpa using hv
      exact Instr.wf_idle_iff.2 ⟨hh, hd, by simpa using hr, hhv, hdv⟩
  · rw [decodeArb_reservedOpmode hc]
    exact Instr.wf_reservedOpmode_iff.2 hc

end Sys2Proof

namespace Sys2Proof.Machine

open Sys2Proof.Claims

/-! ### The codes of the arbitration's outcome (R100, R102, 40_link_arbiter.md R127) -/

/-- R102: the codes 6 and 7 stand for no case. -/
theorem ArbCase.code_lt (c : ArbCase) : c.code.toNat < 6 := by cases c <;> decide

/-- The model's arbitration and R127's, written in codes, test the same conditions in the same order. -/
theorem arbitrate_codes (cfg : Config) (h d : SideIn) :
    ((arbitrate cfg.resetRequiresTxValid h d).1.code, (arbitrate cfg.resetRequiresTxValid h d).2.code) =
      arbitrationCodes cfg h d := by
  simp only [arbitrate, arbitrationCodes, kj, chirpTx_iff, hostResetDriven_iff, Bool.or_eq_true]
  split_ifs <;> rfl

/-- A completed step logs ARB's ports with the arbitration of its inputs, in a reset cycle too (R270). -/
theorem step_arbLog {s t : State} (h : step s = .next t) :
    t.arbLog =
      s.arbPorts s.pins.h (s.deviceIn s.pins)
        (arbitrate s.cfg.resetRequiresTxValid s.pins.h (s.deviceIn s.pins)).1
        (arbitrate s.cfg.resetRequiresTxValid s.pins.h (s.deviceIn s.pins)).2 :: s.arbLog := by
  obtain ⟨-, u, hm, rfl⟩ := step_next h
  calc u.endCycle.arbLog = u.arbLog := rfl
    _ = s.arbDone.arbLog := hm.sameOutsideBot.arbLog
    _ = _ := s.arbDone_arbLog

end Sys2Proof.Machine

namespace Sys2Proof.Proofs

open Sys2Proof.Machine

/-- Settles O2: the encoder keeps every field, and each match condition selects its own branch of the
decoder's chain. -/
theorem decodeOfEncodedInstruction : Obligations.DecodeOfEncodedInstruction := by
  intro cfg i hw
  cases i with
  | badSignature signature opcode c =>
    obtain ⟨hg, hc⟩ := Instr.wf_badSignature_iff.1 hw
    rw [encode, decode_encodeCbw hc, decodeCommand_badSignature (by simpa using hg)]
    simp
  | testUnitReady c =>
    rw [encode, decode_encodeCbw hw, decodeCommand_testUnitReady (by simp) (by simp)]
    simp
  | readCapacity10 c =>
    rw [encode, decode_encodeCbw hw, decodeCommand_readCapacity10 (by simp) (by simp)]
    simp
  | read10 c =>
    rw [encode, decode_encodeCbw hw, decodeCommand_read10 (by simp) (by simp)]
    simp
  | other opcode c =>
    obtain ⟨ho, hc⟩ := Instr.wf_other_iff.1 hw
    rw [encode, decode_encodeCbw hc, decodeCommand_other (by simp) (by simpa using ho)]
    simp
  | devChirpK h d =>
    obtain ⟨hh, hd, hz⟩ := Instr.wf_devChirpK_iff.1 hw
    rw [encode, decode_encodeArb, decodeArb_devChirpK hh hd hz]
  | devChirpJ h d =>
    obtain ⟨hh, hd, hz⟩ := Instr.wf_devChirpJ_iff.1 hw
    rw [encode, decode_encodeArb, decodeArb_devChirpJ hh hd hz]
  | hostChirp h d =>
    obtain ⟨hd, hdc, hhc⟩ := Instr.wf_hostChirp_iff.1 hw
    rw [encode, decode_encodeArb, decodeArb_hostChirp hd hdc hhc]
  | hostReset h d =>
    obtain ⟨hd, hdc, hr⟩ := Instr.wf_hostReset_iff.1 hw
    rw [encode, decode_encodeArb, decodeArb_hostReset hd hdc hr]
  | packet h d =>
    obtain ⟨hh, hd, hdc, hhc, hr, hv⟩ := Instr.wf_packet_iff.1 hw
    rw [encode, decode_encodeArb, decodeArb_packet hh hd hdc hhc hr hv]
  | idle h d =>
    obtain ⟨hh, hd, hr, hhv, hdv⟩ := Instr.wf_idle_iff.1 hw
    rw [encode, decode_encodeArb, decodeArb_idle hh hd hr hhv hdv]
  | reservedOpmode h d =>
    rw [encode, decode_encodeArb, decodeArb_reservedOpmode (Instr.wf_reservedOpmode_iff.1 hw)]

/-- Settles O3: what is accepted carries every bit of the word, and the branch taken is the match
condition. -/
theorem encodeOfDecodedWord : Obligations.EncodeOfDecodedWord := by
  intro cfg w i h
  cases w with
  | cbw bytes =>
    obtain ⟨hl, rfl⟩ := decodeCbw_eq_ok_iff.1 h
    refine ⟨?_, fun hcfg => decodeCommand_wf (recordFields_wf hl (hcfg bytes rfl))⟩
    rw [encode_decodeCommand, encodeCbw_record bytes (by omega)]
  | arbIn w =>
    cases h
    exact ⟨by rw [encode_decodeArb, encodeArb_sides], fun _ => decodeArb_wf cfg _ _⟩

/-- Settles O4: equality of the assembled words is equality byte for byte. -/
theorem signatureCheckIsByteForByte : Obligations.SignatureCheckIsByteForByte := by
  intro bytes
  rw [← signed_iff]
  simp [Claims.signed, and_assoc]

/-- Settles O5: the signature decides the first branch, and the opcode byte the other four. -/
theorem signatureIsTestedBeforeTheOpcode : Obligations.SignatureIsTestedBeforeTheOpcode := by
  intro bytes hl
  rw [← Bool.not_eq_true, signed_iff, decodeCbw_ok hl]
  refine ⟨fun hg => ?badSignature, fun hg ho => ?testUnitReady, fun hg ho => ?readCapacity10,
    fun hg ho => ?read10, fun hg h0 h1 h2 => ?other⟩
  case badSignature => exact ⟨_, _, _, congrArg _ (decodeCommand_badSignature hg)⟩
  case testUnitReady => exact ⟨_, congrArg _ (decodeCommand_testUnitReady hg ho)⟩
  case readCapacity10 => exact ⟨_, congrArg _ (decodeCommand_readCapacity10 hg ho)⟩
  case read10 => exact ⟨_, congrArg _ (decodeCommand_read10 hg ho)⟩
  case other => exact ⟨_, congrArg _ (decodeCommand_other hg ⟨h0, h1, h2⟩)⟩

/-- Settles O13: the record a step logs holds one arbitration for both sides, with R127's codes. -/
theorem everyCycleFollowsThePriorityChain : Obligations.EveryCycleFollowsThePriorityChain := by
  intro s t h
  have hcodes := arbitrate_codes s.cfg s.pins.h (s.deviceIn s.pins)
  exact ⟨_, step_arbLog h, hcodes, hcodes, arbitrate_ne_se1 _ _ _, ArbCase.code_lt _⟩

/-- Settles O1: the decoders evaluated on each of the four words. -/
theorem specWordsDecodeToTheirInstructions : Obligations.SpecWordsDecodeToTheirInstructions := by
  refine ⟨?_, ?_, ?_, ?_⟩
  · decide
  · decide
  · decide
  · decide

/-- Settles O6: the decoder's test of the length fails. -/
theorem otherRecordLengthsAreRejected : Obligations.OtherRecordLengthsAreRejected :=
  fun _ _ hshort hlong => decodeCbw_error (not_or.2 ⟨hshort, hlong⟩)

end Sys2Proof.Proofs
end

section
/-!
PROOFS. The statements of spec/40_link_arbiter.md: the arbitration cases (R122 to R126, R132), the one line
state of both sides (R128), and the byte relay with its delivery law (R140 to R147).
-/

namespace Sys2Proof.Machine

open Sys2Proof.Claims

/-! ### The six cases (R122 to R126, R132, R148) -/

section Cases
variable (s : State) (h d : SideIn)

theorem exec_devChirpK : exec (.devChirpK h d) s = .next (arbAfter s h d .k .devChirpK) := rfl

theorem exec_devChirpJ : exec (.devChirpJ h d) s = .next (arbAfter s h d .j .devChirpJ) := rfl

theorem exec_hostChirp :
    exec (.hostChirp h d) s = .next (arbAfter s h d (if h.txData = 0 then .k else .j) .hostChirp) := rfl

theorem exec_hostReset : exec (.hostReset h d) s = .next (arbAfter s h d .se0 .hostReset) := rfl

theorem exec_packet : exec (.packet h d) s = .next (arbAfter s h d .se0 .packet) := rfl

theorem exec_idle : exec (.idle h d) s = .next (arbAfter s h d .j .idle) := rfl

end Cases

/-- Whichever of the six cases runs, it is a cycle of ARB with some line state and report. -/
theorem exec_arbCase_next {s t : State} {h d : SideIn} {i : Instr}
    (hi : i = .devChirpK h d ∨ i = .devChirpJ h d ∨ i = .hostChirp h d ∨ i = .hostReset h d ∨
      i = .packet h d ∨ i = .idle h d)
    (ht : exec i s = .next t) : ∃ ls c, t = arbAfter s h d ls c := by
  rcases hi with rfl | rfl | rfl | rfl | rfl | rfl <;> cases ht <;> exact ⟨_, _, rfl⟩

/-- R132: under a valid configuration the reserved mode on either side refuses the step by name. -/
theorem step_of_reserved {s : State} (hv : configValid s.cfg = true)
    (hc : ¬ (s.pins.h.contract = true ∧ (s.deviceIn s.pins).contract = true)) :
    step s = .refused .reservedOpMode := by
  rw [step, cycle, if_pos hv, arbEdge, State.arbInstr, exec_decodeArb_reserved _ _ _ _ hc]

/-- A side presents the reserved mode exactly when not both are within the contract. -/
theorem reserved_iff (h d : SideIn) :
    h.opMode = .reserved ∨ d.opMode = .reserved ↔ ¬ (h.contract = true ∧ d.contract = true) := by
  rw [contract_iff, contract_iff]
  tauto

/-! ### The relay in one cycle (R140 to R144) -/

theorem relayAccept_iff {p cnt : Nat} {src : SideIn} :
    relayAccept p cnt src = true ↔ src.txValid = true ∧ cnt = p := by
  simp [relayAccept]

theorem relayCount_transmitting {p cnt : Nat} {src : SideIn} (hv : src.txValid = true) :
    relayCount p cnt src = min (cnt + 1) p := if_pos hv

/-- R140, R271: a completed step leaves the counters as ARB's cycle set them. -/
theorem step_counters {s t : State} (h : step s = .next t) :
    t.cntHd = (if s.pins.arbRst then 0 else relayCount s.cfg.pPreamble s.cntHd s.pins.h) ∧
    t.cntDh = (if s.pins.arbRst then 0 else relayCount s.cfg.pPreamble s.cntDh (s.deviceIn s.pins)) := by
  obtain ⟨-, u, hm, rfl⟩ := step_next h
  exact ⟨hm.sameOutsideBot.cntHd.trans s.arbDone_cntHd, hm.sameOutsideBot.cntDh.trans s.arbDone_cntDh⟩

/-! ### The relay over consecutive inputs of one sender (R140, R142, R143, R147) -/

/-- The bytes accepted from a sender whose counter is `cnt` and whose inputs on consecutive cycles are
given. -/
def relayed (p : Nat) : Nat → List SideIn → List Byte
  | _, [] => []
  | cnt, x :: xs => (if relayAccept p cnt x then [x.txData] else []) ++ relayed p (relayCount p cnt x) xs

/-- R147: of a streak that finds the counter at `cnt`, everything after the rest of the lead time. -/
theorem relayed_streak {p cnt : Nat} {xs : List SideIn} (hv : ∀ x ∈ xs, x.txValid = true) (hc : cnt ≤ p) :
    relayed p cnt xs = (xs.drop (p - cnt)).map (·.txData) := by
  induction xs generalizing cnt with
  | nil => simp [relayed]
  | cons x xs ih =>
    obtain ⟨hx, hxs⟩ := List.forall_mem_cons.1 hv
    rw [relayed, ih hxs (relayCount_le ..), relayCount_transmitting hx]
    rcases Nat.eq_or_lt_of_le hc with rfl | hlt
    · rw [if_pos (relayAccept_iff.2 ⟨hx, rfl⟩), Nat.min_eq_right (Nat.le_succ _), Nat.sub_self]
      rfl
    · have hlead : p - cnt = p - (cnt + 1) + 1 := by omega
      rw [if_neg (by simp [relayAccept_iff, hlt.ne]), Nat.min_eq_left hlt, hlead]
      rfl

/-- R140 over a streak: the counter saturates. -/
theorem foldl_relayCount_streak {p cnt : Nat} {xs : List SideIn} (hv : ∀ x ∈ xs, x.txValid = true)
    (hc : cnt ≤ p) : xs.foldl (relayCount p) cnt = min (cnt + xs.length) p := by
  induction xs generalizing cnt with
  | nil => simpa using hc
  | cons x xs ih =>
    obtain ⟨hx, hxs⟩ := List.forall_mem_cons.1 hv
    rw [List.foldl_cons, ih hxs (relayCount_le ..), relayCount_transmitting hx, List.length_cons]
    omega

/-- R147 for a side `side` of consecutive pins: with the counter at 0 the whole lead time is to come. -/
theorem relayed_pins {p : Nat} {ps : List Pins} {side : Pins → SideIn}
    (hv : ∀ q ∈ ps, (side q).txValid = true) :
    relayed p 0 (ps.map side) = (ps.drop p).map fun q => (side q).txData := by
  rw [relayed_streak (List.forall_mem_map.2 hv) (Nat.zero_le p), Nat.sub_zero, ← List.map_drop, List.map_map]
  rfl

theorem foldl_relayCount_pins {p : Nat} {ps : List Pins} {side : Pins → SideIn}
    (hv : ∀ q ∈ ps, (side q).txValid = true) :
    (ps.map side).foldl (relayCount p) 0 = min ps.length p := by
  rw [foldl_relayCount_streak (List.forall_mem_map.2 hv) (Nat.zero_le p), Nat.zero_add, List.length_map]

/-! ### The relay over a run -/

theorem deliveredToDevice_append (newer older : List ArbRecord) :
    deliveredToDevice (newer ++ older) = deliveredToDevice older ++ deliveredToDevice newer := by
  simp [deliveredToDevice]

theorem deliveredToHost_append (newer older : List ArbRecord) :
    deliveredToHost (newer ++ older) = deliveredToHost older ++ deliveredToHost newer := by
  simp [deliveredToHost]

/-- From `s` to `t` ARB relayed the host's inputs `hs` and the device's inputs `ds`, one of each a cycle:
its port log shows what `relayed` says, and both counters have moved accordingly. -/
structure Relays (s : State) (hs ds : List SideIn) (t : State) : Prop where
  log : ∃ log, t.arbLog = log ++ s.arbLog ∧ log.length = hs.length ∧
    deliveredToDevice log = relayed s.cfg.pPreamble s.cntHd hs ∧
    deliveredToHost log = relayed s.cfg.pPreamble s.cntDh ds
  cntHd : t.cntHd = hs.foldl (relayCount s.cfg.pPreamble) s.cntHd
  cntDh : t.cntDh = ds.foldl (relayCount s.cfg.pPreamble) s.cntDh

theorem Relays.refl (s : State) : Relays s [] [] s := ⟨⟨[], rfl, rfl, rfl, rfl⟩, rfl, rfl⟩

/-- A completed step without a reset of ARB relays its cycle's inputs, ahead of what follows it. -/
theorem Relays.cons {s u t : State} {hs ds : List SideIn} (h : step s = .next u)
    (hr : s.pins.arbRst = false) (h' : Relays u hs ds t) :
    Relays s (s.pins.h :: hs) (s.deviceIn s.pins :: ds) t := by
  have hcfg : u.cfg = s.cfg := Proofs.configurationNeverChanges s u h
  obtain ⟨hhd, hdh⟩ := step_counters h
  rw [hr, if_neg Bool.false_ne_true] at hhd hdh
  obtain ⟨⟨log, hlog, hlen, hdev, hhost⟩, hcntHd, hcntDh⟩ := h'
  rw [hcfg, hhd] at hdev hcntHd
  rw [hcfg, hdh] at hhost hcntDh
  rw [step_arbLog h] at hlog
  refine ⟨⟨log ++ [_], by rw [hlog, List.append_assoc]; rfl, by simp [hlen], ?_, ?_⟩, hcntHd, hcntDh⟩
  · rw [deliveredToDevice_append, hdev, relayed]
    rcases hacc : relayAccept s.cfg.pPreamble s.cntHd s.pins.h <;>
      simp [deliveredToDevice, State.arbPorts, sideOut, hacc]
  · rw [deliveredToHost_append, hhost, relayed]
    rcases hacc : relayAccept s.cfg.pPreamble s.cntDh (s.deviceIn s.pins) <;>
      simp [deliveredToHost, State.arbPorts, sideOut, hacc]

/-- The last entries of ARB's port log, one for each cycle, hold what was relayed. -/
theorem Relays.delivered_take {s t : State} {hs ds : List SideIn} (h : Relays s hs ds t) :
    deliveredToDevice (t.arbLog.take hs.length) = relayed s.cfg.pPreamble s.cntHd hs ∧
    deliveredToHost (t.arbLog.take hs.length) = relayed s.cfg.pPreamble s.cntDh ds := by
  obtain ⟨log, hlog, hlen, hdev, hhost⟩ := h.log
  rw [hlog, List.take_left' hlen]
  exact ⟨hdev, hhost⟩

/-! ### Runs that complete -/

/-- BOT's edge keeps the buffer's length (R36), a reset included. -/
theorem BotMove.keeps_bufferLength {b : BotIn} {s u : State} (h : BotMove b s u)
    (hl : s.cbw.length = s.cfg.cbwLen) : u.cbw.length = u.cfg.cbwLen := by
  cases h with
  | reset => exact length_freeBuffer ..
  | store | storeLast => exact List.length_set.trans hl
  | command _ _ _ _ he =>
    have hm := exec_command_move he
    rwa [hm.keeps_buffer.1, hm.sameOutsideBot.cfg]
  | wait | stall | advance | finishData | finishCsw => exact hl

/-- BOT's own transmit endpoint is always within the contract (R285), so the pins decide. -/
theorem State.deviceIn_contract {s : State} {p : Pins} (hd : p.d.contract = true) :
    (s.deviceIn p).contract = true := by
  unfold State.deviceIn
  split
  · exact hd
  · rfl

/-- The next cycles' pins are `ps`, within the contract and without a reset of ARB, and nothing else stands
in the way of their completion. -/
structure Relaying (s : State) (ps rest : List Pins) : Prop where
  valid : configValid s.cfg = true
  bufferLength : s.cbw.length = s.cfg.cbwLen
  script : s.script = ps ++ rest
  cycles : ∀ p ∈ ps, p.arbRst = false ∧ p.h.contract = true ∧ p.d.contract = true

theorem Relaying.step_completes {s : State} {p : Pins} {ps rest : List Pins}
    (h : Relaying s (p :: ps) rest) : ∃ u, step s = .next u ∧ Relaying u ps rest := by
  have hpins : s.pins = p := State.pins_of_script h.script
  obtain ⟨-, hh, hd⟩ := h.cycles p (by simp)
  have hc : s.InContract := by
    rw [State.InContract, hpins]
    exact ⟨h.valid, hh, State.deviceIn_contract hd⟩
  obtain ⟨u, hu⟩ := Machine.step_completes hc (h.bufferLength ▸ configValid_cbwLen h.valid)
  obtain ⟨-, v, hm, rfl⟩ := step_next hu
  have hcfg : v.cfg = s.cfg := hm.sameOutsideBot.cfg.trans s.arbDone_cfg
  have hscript : v.script = s.script := hm.sameOutsideBot.script.trans s.arbDone_script
  exact ⟨_, hu,
    { valid := by simpa [hcfg] using h.valid
      bufferLength := hm.keeps_bufferLength (by simpa using h.bufferLength)
      script := by simp [hscript, h.script]
      cycles := fun q hq => h.cycles q (by simp [hq]) }⟩

/-- The whole run completes and relays the host's pins, and the device's where the blocks stand alone. -/
theorem Relaying.run {s : State} {ps rest : List Pins} (h : Relaying s ps rest) :
    ∃ t ds, runCycles ps.length s = .next t ∧ Relays s (ps.map (·.h)) ds t ∧
      (s.cfg.wiring = .independent → ds = ps.map (·.d)) := by
  induction ps generalizing s with
  | nil => exact ⟨s, [], rfl, .refl s, fun _ => rfl⟩
  | cons p ps ih =>
    have hpins : s.pins = p := State.pins_of_script h.script
    obtain ⟨u, hu, hnext⟩ := h.step_completes
    obtain ⟨t, ds, hrun, hrelays, halone⟩ := ih hnext
    have hcons := Relays.cons hu (hpins ▸ (h.cycles p (by simp)).1) hrelays
    rw [hpins] at hcons
    refine ⟨t, s.deviceIn p :: ds, (runCycles_succ _ hu).trans hrun, hcons, fun hw => ?_⟩
    have hcfg : u.cfg = s.cfg := Proofs.configurationNeverChanges s u hu
    rw [State.deviceIn_alone hw, halone (hcfg ▸ hw), List.map_cons]

end Sys2Proof.Machine

namespace Sys2Proof.Proofs

open Sys2Proof.Machine Sys2Proof.Claims

/-- Settles O12: the reserved mode is the chain's first test, and the step runs no case after it. -/
theorem reservedOpModeRefusesTheStep : Obligations.ReservedOpModeRefusesTheStep := by
  intro s r h d
  refine ⟨rfl, fun hres => ?decoded, fun hv hres => ?refused⟩
  case decoded => exact decodeArb_reservedOpmode ((reserved_iff h d).1 hres)
  case refused => exact step_of_reserved hv ((reserved_iff _ _).1 hres)

/-- Settles O14: the record a step logs gives one line state to both sides. -/
theorem bothSidesSeeOneLineState : Obligations.BothSidesSeeOneLineState :=
  fun _ _ h => ⟨_, step_arbLog h, rfl⟩

/-- Settles O15: the record a step logs holds the relay's outputs over both sides' inputs. -/
theorem relayOutputsInEveryCycle : Obligations.RelayOutputsInEveryCycle :=
  fun _ _ h => ⟨_, step_arbLog h, rfl, rfl, relayAccept_iff, relayAccept_iff, rfl, rfl, rfl, rfl⟩

/-- Settles O16: BOT's edge leaves the counters that ARB's cycle set. -/
theorem leadTimeCountersInEveryCycle : Obligations.LeadTimeCountersInEveryCycle := by
  intro s t h
  obtain ⟨hhd, hdh⟩ := step_counters h
  refine ⟨fun hr => ?reset, fun hr => ?count⟩
  case reset =>
    rw [if_pos hr] at hhd hdh
    exact ⟨hhd, hdh⟩
  case count =>
    rw [if_neg (by simp [hr])] at hhd hdh
    exact ⟨hhd, hdh⟩

/-- Settles O17: each case is a cycle of ARB, which writes the counters and ARB's port log alone. -/
theorem arbitrationCasesLeaveBotUnchanged : Obligations.ArbitrationCasesLeaveBotUnchanged := by
  intro s t h d i hi ht
  obtain ⟨ls, c, rfl⟩ := exec_arbCase_next hi ht
  exact ⟨⟨rfl, rfl, rfl, rfl, rfl, rfl, fun _ => rfl⟩, rfl, rfl, rfl, rfl, rfl⟩

/-- Settles O18: the run completes and relays the host's pins, which are a streak. -/
theorem hostStreakDelivery : Obligations.HostStreakDelivery := by
  intro s streak rest hv hl hcnt hscript hstreak
  have hrelaying : Relaying s streak rest :=
    ⟨hv, hl, hscript, fun p hp => (hstreak p hp).imp_right And.right⟩
  have hvalid : ∀ p ∈ streak, p.h.txValid = true := fun p hp => (hstreak p hp).2.1
  obtain ⟨t, ds, hrun, hrelays, -⟩ := hrelaying.run
  obtain ⟨hdelivered, -⟩ := hrelays.delivered_take
  have hcounter := hrelays.cntHd
  rw [List.length_map, hcnt, relayed_pins hvalid] at hdelivered
  rw [hcnt, foldl_relayCount_pins hvalid] at hcounter
  exact ⟨t, hrun, hdelivered, hcounter⟩

/-- Settles O19: likewise for the device's pins, which are ARB's device side where the blocks stand alone. -/
theorem deviceStreakDelivery : Obligations.DeviceStreakDelivery := by
  intro s streak rest hv hw hl hcnt hscript hstreak
  have hrelaying : Relaying s streak rest :=
    ⟨hv, hl, hscript, fun p hp => (hstreak p hp).imp_right And.right⟩
  have hvalid : ∀ p ∈ streak, p.d.txValid = true := fun p hp => (hstreak p hp).2.1
  obtain ⟨t, ds, hrun, hrelays, halone⟩ := hrelaying.run
  obtain rfl := halone hw
  obtain ⟨-, hdelivered⟩ := hrelays.delivered_take
  have hcounter := hrelays.cntDh
  rw [List.length_map, hcnt, relayed_pins hvalid] at hdelivered
  rw [hcnt, foldl_relayCount_pins hvalid] at hcounter
  exact ⟨t, hrun, hdelivered, hcounter⟩

/-- Settles O7: the chain's first case, by the device's byte. -/
theorem deviceChirpDecidesTheLineState : Obligations.DeviceChirpDecidesTheLineState := by
  intro s r h d hh hmode hv
  have hdc : chirpTx d = true := (chirpTx_iff d).2 ⟨hmode, hv⟩
  exact ⟨decodeArb_devChirpK ((contract_iff h).2 hh) hdc, decodeArb_devChirpJ ((contract_iff h).2 hh) hdc,
    exec_devChirpK s h d, exec_devChirpJ s h d⟩

/-- Settles O8: past a device that does not chirp, the chain tests the host. -/
theorem hostChirpDecidesTheLineState : Obligations.HostChirpDecidesTheLineState := by
  intro s r h d hd hdc hmode hv
  rw [← chirpTx_iff, Bool.not_eq_true] at hdc
  exact ⟨decodeArb_hostChirp ((contract_iff d).2 hd) hdc ((chirpTx_iff h).2 ⟨hmode, hv⟩),
    exec_hostChirp s h d⟩

/-- Settles O9: a host in RAW_DRIVE mode does not chirp, so the chain comes to its reset test. -/
theorem hostResetForcesSe0 : Obligations.HostResetForcesSe0 := by
  intro s r h d hd hdc hmode hv
  rw [← chirpTx_iff, Bool.not_eq_true] at hdc
  exact ⟨decodeArb_hostReset ((contract_iff d).2 hd) hdc ((hostResetDriven_iff r h).2 ⟨hmode, hv⟩),
    exec_hostReset s h d⟩

/-- Settles O10: the three tests before it fail. -/
theorem packetForcesSe0 : Obligations.PacketForcesSe0 := by
  intro s r h d hh hd hdc hhc hr hv
  rw [← chirpTx_iff, Bool.not_eq_true] at hdc hhc
  rw [← hostResetDriven_iff, Bool.not_eq_true] at hr
  rw [← Bool.or_eq_true] at hv
  exact ⟨decodeArb_packet ((contract_iff h).2 hh) ((contract_iff d).2 hd) hdc hhc hr hv,
    exec_packet s h d⟩

/-- Settles O11: a silent side does not chirp, so every test of the chain fails. -/
theorem idleBusShowsJ : Obligations.IdleBusShowsJ := by
  intro s r h d hh hd hr hhv hdv
  rw [← hostResetDriven_iff, Bool.not_eq_true] at hr
  exact ⟨decodeArb_idle ((contract_iff h).2 hh) ((contract_iff d).2 hd) hr hhv hdv,
    exec_idle s h d⟩

end Sys2Proof.Proofs
end

section
/-!
PROOFS. The statements of spec/41_bot_transport.md: BOT's outputs (R161), the receive path (R162 to R164), the
PROCESS_CBW cycle (R165 to R167), the emitters (R168 to R172) and the state graph (R160).
-/

namespace Sys2Proof.Machine

open Sys2Proof.Claims

/-! ### BOT's outputs, state by state (R161, R62 to R64) -/

section Outputs
variable {s : State}

theorem State.botOut_recvCbw (hs : s.st = .recvCbw) : s.botOut = ⟨true, false, s.txData, false⟩ := by
  simp [State.botOut, hs, BotState.sends]

theorem State.botOut_processCbw (hs : s.st = .processCbw) :
    s.botOut = ⟨false, false, s.txData, false⟩ := by
  simp [State.botOut, hs, BotState.sends]

theorem State.botOut_capacity (hs : s.st = .sendCapacity) :
    s.botOut = ⟨false, true, byteAt (capacityBytes s.cfg) s.txCur, decide (s.txCur = 7)⟩ := by
  simp only [State.botOut, State.txData, State.onLastByte, State.recLen, hs]
  rfl

theorem State.botOut_data (hs : s.st = .sendData) :
    s.botOut = ⟨false, true, BitVec.ofNat 8 s.txCur ^^^ byteAt s.cbw 20,
      decide (s.txCur = s.cfg.blockSize - 1)⟩ := by
  simp only [State.botOut, State.txData, State.onLastByte, State.recLen, hs]
  rfl

theorem State.botOut_csw (hs : s.st = .sendCsw) :
    s.botOut = ⟨false, true, byteAt (cswBytes s.cbw (if s.fail = true then 0x01 else 0x00)) s.txCur,
      decide (s.txCur = 12)⟩ := by
  simp only [State.botOut, State.txData, State.onLastByte, State.recLen, hs, State.cswRecord_eq]
  rfl

end Outputs

theorem State.recLen_capacity {s : State} (hs : s.st = .sendCapacity) : s.recLen = 8 := by
  simp [State.recLen, hs, capLen]

theorem State.recLen_data {s : State} (hs : s.st = .sendData) : s.recLen = s.cfg.blockSize := by
  simp [State.recLen, hs]

theorem State.recLen_csw {s : State} (hs : s.st = .sendCsw) : s.recLen = 13 := by
  simp [State.recLen, hs, cswLen]

theorem BotState.sends_iff (x : BotState) :
    x.sends = true ↔ x = .sendCapacity ∨ x = .sendData ∨ x = .sendCsw := by
  cases x <;> simp [BotState.sends]

/-- R172, R173: in a SEND state the outputs are a function of BOT's registers, with no free value. -/
theorem SameBot.botOut {s u : State} (h : SameBot s u) (hs : s.st.sends = true) : u.botOut = s.botOut := by
  rcases (BotState.sends_iff s.st).1 hs with hs | hs | hs
  · rw [State.botOut_capacity hs, State.botOut_capacity (h.st.trans hs), h.cfg, h.txCur]
  · rw [State.botOut_data hs, State.botOut_data (h.st.trans hs), h.cfg, h.txCur, h.cbw]
  · rw [State.botOut_csw hs, State.botOut_csw (h.st.trans hs), h.txCur, h.cbw, h.fail]

/-! ### A step, as a move of BOT's edge on the state itself -/

theorem SameBot.cbwByte {s u : State} (h : SameBot s u) (a : Nat) : u.cbwByte a = s.cbwByte a :=
  congrArg (byteAt · a) h.cbw

theorem SameBot.keepsCommand {s u : State} (h : SameBot s u) : KeepsCommand s u :=
  ⟨h.rxOff, h.ready, h.polls, h.cbwByte⟩

theorem SameBot.keepsBot {s u : State} (h : SameBot s u) : KeepsBot s u :=
  ⟨h.st, h.txCur, h.fail, h.keepsCommand⟩

/-- After a cycle from `s`, BOT's part of `t` is that of `u`, and the cycle's BOT ports are logged. -/
structure BotAfter (s u t : State) : Prop extends SameBot u t where
  trace : t.trace = u.trace
  botLog : t.botLog = ⟨s.botIn s.pins, s.botOut⟩ :: s.botLog

/-- ARB's cycle leaves BOT's part of the state. -/
theorem State.aside_arbDone (s : State) : s.aside s.arbDone = s.arbDone := by
  unfold State.arbDone
  split <;> rfl

theorem State.arbDone_aside (s : State) : s.arbDone.aside s = s := by
  simp [State.aside]

/-- A completed step did what one of BOT's moves does to the state before it. -/
theorem botMove_of_step {s t : State} (h : step s = .next t) :
    s.InContract ∧ ∃ u, BotMove (s.botIn s.pins) s u ∧ BotAfter s u t := by
  obtain ⟨hc, v, hm, rfl⟩ := step_next h
  obtain ⟨tr, hm', htr⟩ := hm.aside s
  rw [State.arbDone_aside] at hm'
  refine ⟨hc, _, hm', ?_⟩
  exact
    { cfg := rfl, st := rfl, rxOff := rfl, txCur := rfl, ready := rfl, polls := rfl, fail := rfl, cbw := rfl
      trace := (htr s.arbDone_trace.symm).symm
      botLog := hm.sameOutsideBot.botLog.trans s.arbDone_botLog }

/-- Within the contract, a move that applies to the state is what the step does. -/
theorem step_of_botMove {s u : State} (hc : s.InContract) (hm : BotMove (s.botIn s.pins) s u) :
    ∃ t, step s = .next t ∧ BotAfter s u t := by
  obtain ⟨tr, hm', -⟩ := hm.aside s.arbDone
  rw [State.aside_arbDone] at hm'
  have hstep := step_of_move hc hm'
  obtain ⟨-, v, hv, ht⟩ := botMove_of_step hstep
  exact ⟨_, hstep, hv.unique hm ▸ ht⟩

/-! ### The PROCESS_CBW cycle (R165 to R167) -/

/-- One command at most applies. -/
theorem CommandMove.unique {s u v : State} (hu : CommandMove s u) (hv : CommandMove s v) : u = v := by
  have h := hu.exec_eq.symm.trans hv.exec_eq
  cases h
  rfl

/-- R166: a valid CBW's opcode is traced, whatever the command. -/
theorem CommandMove.traces_opcode {s u : State} (h : CommandMove s u) (hsig : signed s.cbw = true) :
    u.trace = .opcode (byteAt s.cbw 15) :: s.trace := by
  cases h with
  | discard hg => exact absurd ((signed_iff _).1 hsig) hg
  | pollFails _ ho | pollPasses _ ho | capacity _ ho | data _ ho | notReady _ _ ho | acknowledge _ _ ho =>
    exact congrArg (fun op => TraceEvent.opcode op :: s.trace) ho.symm

/-- R165: exactly a bad signature leads back to RECV_CBW. -/
theorem CommandMove.discards_iff {s u : State} (h : CommandMove s u) :
    u.st = .recvCbw ↔ signed s.cbw = false := by
  cases h with
  | discard hg => simpa using mt (signed_iff s.cbw).1 hg
  | pollFails hg | pollPasses hg | capacity hg | data hg | notReady hg | acknowledge hg =>
    simp [(signed_iff s.cbw).2 hg]

/-- R165 to R167: without a reset, the move from PROCESS_CBW is a command's. -/
theorem BotMove.command_of_processCbw {b : BotIn} {s u : State} (h : BotMove b s u) (hr : b.rst = false)
    (hs : s.st = .processCbw) : CommandMove s u := by
  cases h with
  | command _ _ _ _ he => exact exec_command_move he
  | reset hr' => simp [hr] at hr'
  | wait _ hs' | store _ hs' | storeLast _ hs' | finishCsw _ hs' => simp [hs] at hs'
  | stall _ hs' | advance _ hs' => simp [hs, BotState.sends] at hs'
  | finishData _ hs' => simp [hs] at hs'

/-- The PROCESS_CBW cycle completes whatever the buffer holds, and runs a command. -/
theorem step_processCbw {s : State} (hc : s.InContract) (hl : s.cbw.length = s.cfg.cbwLen)
    (hs : s.st = .processCbw) (hr : (s.botIn s.pins).rst = false) :
    ∃ u t, CommandMove s u ∧ step s = .next t ∧ BotAfter s u t := by
  obtain ⟨u, he, hm⟩ := exec_command s
  obtain ⟨t, hstep, ht⟩ := step_of_botMove hc (.command hr hs (hl ▸ configValid_cbwLen hc.1) u he)
  exact ⟨u, t, hm, hstep, ht⟩

/-! ### The emitters (R168 to R172) -/

/-- R168, R169: what a handshake of the data phase does, in terms of the record's length. -/
theorem step_dataPhase {s : State} (hc : s.InContract) (hr : (s.botIn s.pins).rst = false)
    (hs : s.st = .sendCapacity ∨ s.st = .sendData) (hv : (s.botIn s.pins).txReady = true) :
    ∃ t, step s = .next t ∧ KeepsCommand s t ∧ t.fail = s.fail ∧ t.trace = s.trace ∧
      t.botLog = ⟨s.botIn s.pins, s.botOut⟩ :: s.botLog ∧
      (s.txCur = s.recLen - 1 → t.txCur = 0 ∧ t.st = .sendCsw) ∧
      (s.txCur ≠ s.recLen - 1 → t.txCur = s.txCur + 1 ∧ t.st = s.st) := by
  by_cases ho : s.txCur = s.recLen - 1
  · obtain ⟨t, hstep, ht⟩ := step_of_botMove hc (.finishData hr hs hv ho)
    exact ⟨t, hstep, ht.keepsCommand, ht.fail, ht.trace, ht.botLog, fun _ => ⟨ht.txCur, ht.st⟩,
      fun hne => absurd ho hne⟩
  · obtain ⟨t, hstep, ht⟩ := step_of_botMove hc (.advance hr ((BotState.sends_iff _).2 (by tauto)) hv ho)
    exact ⟨t, hstep, ht.keepsCommand, ht.fail, ht.trace, ht.botLog, fun heq => absurd heq ho,
      fun _ => ⟨ht.txCur, ht.st⟩⟩

/-! ### The state graph (R160) -/

section Graph
variable {b : BotIn} {s u : State} (h : BotMove b s u) (hr : b.rst = false)
include h hr

theorem BotMove.st_of_recvCbw (hs : s.st = .recvCbw) :
    (u.st = .processCbw ↔ b.rxValid = true ∧ s.rxOff = s.cfg.cbwLen - 1) ∧
      (u.st ≠ .processCbw → u.st = .recvCbw) := by
  rcases hv : b.rxValid
  · obtain rfl := h.unique (.wait hr hs hv)
    simp [hs]
  · by_cases ho : s.rxOff = s.cfg.cbwLen - 1
    · obtain rfl := h.unique (.storeLast hr hs hv ho)
      simp [ho]
    · obtain rfl := h.unique (.store hr hs hv ho)
      simp [hs, ho]

theorem BotMove.st_of_dataPhase (hs : s.st = .sendCapacity ∨ s.st = .sendData) :
    (u.st = .sendCsw ↔ b.txReady = true ∧ s.txCur = s.recLen - 1) ∧ (u.st ≠ .sendCsw → u.st = s.st) := by
  have hsends : s.st.sends = true := (BotState.sends_iff _).2 (by tauto)
  have hne : s.st ≠ .sendCsw := by rcases hs with hs | hs <;> simp [hs]
  rcases hv : b.txReady
  · obtain rfl := h.unique (.stall hr hsends hv)
    simp [hne]
  · by_cases ho : s.txCur = s.recLen - 1
    · obtain rfl := h.unique (.finishData hr hs hv ho)
      simp [ho]
    · obtain rfl := h.unique (.advance hr hsends hv ho)
      simp [hne, ho]

theorem BotMove.st_of_csw (hs : s.st = .sendCsw) :
    (u.st = .recvCbw ↔ b.txReady = true ∧ s.txCur = s.recLen - 1) ∧ (u.st ≠ .recvCbw → u.st = .sendCsw) := by
  have hsends : s.st.sends = true := by rw [hs]; rfl
  rcases hv : b.txReady
  · obtain rfl := h.unique (.stall hr hsends hv)
    simp [hs]
  · by_cases ho : s.txCur = s.recLen - 1
    · obtain rfl := h.unique (.finishCsw hr hs hv ho)
      simp [ho]
    · obtain rfl := h.unique (.advance hr hsends hv ho)
      simp [hs, ho]

end Graph

end Sys2Proof.Machine

namespace Sys2Proof.Proofs

open Sys2Proof.Machine Sys2Proof.Claims

/-- Settles O20: the record a step logs holds the outputs of the state before it, state by state. -/
theorem endpointOutputsInEveryCycle : Obligations.EndpointOutputsInEveryCycle := by
  intro s t h
  obtain ⟨-, u, -, ht⟩ := botMove_of_step h
  refine ⟨_, ht.botLog, ?_⟩
  rcases hs : s.st
  · simp [State.botOut_recvCbw hs]
  · simp [State.botOut_processCbw hs]
  · simp [State.botOut_capacity hs]
  · simp [State.botOut_data hs]
  · simp [State.botOut_csw hs]

/-- Settles O21: the move that stores a byte, which lies inside the buffer. -/
theorem receivedByteIsStored : Obligations.ReceivedByteIsStored := by
  intro s hc hr hs hv ho hl
  obtain ⟨t, hstep, ht⟩ := step_of_botMove hc (.store hr hs hv ho)
  exact ⟨t, hstep, ht.st.trans hs, ht.rxOff,
    fun a => (ht.cbwByte a).trans (s.cbwByte_storeCbw _ _ a hl), ht.txCur, ht.ready, ht.polls, ht.fail, ht.trace⟩

/-- Settles O22: the move that stores the last byte. -/
theorem finalByteStartsProcessing : Obligations.FinalByteStartsProcessing := by
  intro s hc hr hs hv ho hl
  obtain ⟨t, hstep, ht⟩ := step_of_botMove hc (.storeLast hr hs hv ho)
  exact ⟨t, hstep, ht.st, ht.rxOff, ht.txCur,
    fun a => (ht.cbwByte a).trans (ho ▸ s.cbwByte_storeCbw _ _ a hl), ht.ready, ht.polls, ht.fail, ht.trace⟩

/-- Settles O23: the move that waits for a byte. -/
theorem noByteNoChange : Obligations.NoByteNoChange := by
  intro s hc hr hs hv
  obtain ⟨t, hstep, ht⟩ := step_of_botMove hc (.wait hr hs hv)
  exact ⟨t, hstep, ht.keepsBot, ht.trace⟩

/-- Settles O29: under the hypotheses of each clause one command move applies, and it is the one that ran. -/
theorem processCbwFollowsThePseudocode : Obligations.ProcessCbwFollowsThePseudocode := by
  intro s hc hl hs hr
  obtain ⟨u, t, hm, hstep, ht⟩ := step_processCbw hc hl hs hr
  obtain ⟨hcbw, hoff, hcur⟩ := hm.keeps_buffer
  refine ⟨t, hstep, ht.rxOff.trans hoff, ht.txCur.trans hcur, fun a => ?buffer, fun hsig => ?unsigned,
    fun hsig => ?signed⟩
  case buffer => exact congrArg (byteAt · a) (ht.cbw.trans hcbw)
  case unsigned =>
    obtain rfl := hm.unique (.discard (mt (signed_iff s.cbw).2 (by simp [hsig])))
    exact ⟨ht.st, ht.ready, ht.polls, ht.fail, ht.trace⟩
  case signed =>
    have hg : recordSignature s.cbw = cbwMagic := (signed_iff s.cbw).1 hsig
    have leads (v : State) (hv : CommandMove s v) :
        t.st = v.st ∧ t.fail = v.fail ∧ t.polls = v.polls ∧ t.ready = v.ready := by
      obtain rfl := hm.unique hv
      exact ⟨ht.st, ht.fail, ht.polls, ht.ready⟩
    exact ⟨ht.trace.trans (hm.traces_opcode hsig),
      fun hop hp => leads _ (.pollFails hg hop hp),
      fun hop hp => leads _ (.pollPasses hg hop hp),
      fun hop hp => leads _ (.notReady hg _ rfl hop hp),
      fun hop hp => leads _ (.capacity hg hop hp),
      fun hop hp => leads _ (.data hg hop hp),
      fun h0 h1 h2 => leads _ (.acknowledge hg _ rfl ⟨h0, h1, h2⟩)⟩

/-- Settles O32: a reset and every command lead out of PROCESS_CBW, whose outputs offer and accept nothing. -/
theorem processCbwLastsOneCycle : Obligations.ProcessCbwLastsOneCycle := by
  intro s t hs h
  obtain ⟨-, u, hm, ht⟩ := botMove_of_step h
  have hmove : u.st ≠ .processCbw ∧ u.rxOff = if (s.botIn s.pins).rst = true then 0 else s.rxOff := by
    rcases hr : (s.botIn s.pins).rst
    · have hcommand := hm.command_of_processCbw hr hs
      exact ⟨hcommand.leaves_processCbw.1, hcommand.keeps_buffer.2.1⟩
    · obtain rfl := hm.unique (.reset hr)
      simp
  obtain ⟨hleaves, hoff⟩ := hmove
  refine ⟨ht.st ▸ hleaves, ht.rxOff.trans hoff, _, ht.botLog, ?_⟩
  simp [State.botOut_processCbw hs]

/-- Settles O34: a handshake of the data phase whose record has 8 bytes. -/
theorem capacityRecordHandshake : Obligations.CapacityRecordHandshake := by
  intro s hc hr hs hv
  have h := step_dataPhase hc hr (.inl hs) hv
  rwa [State.botOut_capacity hs, State.recLen_capacity hs, hs] at h

/-- Settles O35: likewise with a record of BLOCK_SIZE bytes. -/
theorem dataRecordHandshake : Obligations.DataRecordHandshake := by
  intro s hc hr hs hv
  have h := step_dataPhase hc hr (.inr hs) hv
  rwa [State.botOut_data hs, State.recLen_data hs, hs] at h

/-- Settles O36: before byte 12 the move advances the cursor. -/
theorem cswByteHandshake : Obligations.CswByteHandshake := by
  intro s hc hr hs hv ho
  have hne : s.txCur ≠ s.recLen - 1 := by rwa [State.recLen_csw hs]
  obtain ⟨t, hstep, ht⟩ := step_of_botMove hc (.advance hr (by rw [hs]; rfl) hv hne)
  have hlog := ht.botLog
  rw [State.botOut_csw hs, decide_eq_false ho] at hlog
  exact ⟨t, hstep, ht.keepsCommand, ht.fail, ht.trace, hlog, ht.txCur, ht.st.trans hs⟩

/-- Settles O37: byte 12 is the status, and its move ends the CSW. -/
theorem finalCswByteHandshake : Obligations.FinalCswByteHandshake := by
  intro s hc hr hs hv ho
  have hlast : s.txCur = s.recLen - 1 := by rwa [State.recLen_csw hs]
  obtain ⟨t, hstep, ht⟩ := step_of_botMove hc (.finishCsw hr hs hv hlast)
  have hlog := ht.botLog
  rw [State.botOut_csw hs, ho] at hlog
  exact ⟨t, hstep, ht.keepsCommand, ht.txCur, ht.fail, ht.st, hlog, ht.trace⟩

/-- Settles O38: the stall leaves BOT's registers, of which the outputs of a SEND state are a function. -/
theorem transmitStallChangesNothing : Obligations.TransmitStallChangesNothing := by
  intro s hc hr hs hv
  have hsends : s.st.sends = true := (BotState.sends_iff _).2 hs
  obtain ⟨t, hstep, ht⟩ := step_of_botMove hc (.stall hr hsends hv)
  exact ⟨t, hstep, ht.keepsBot, ht.trace, ht.toSameBot.botOut hsends⟩

/-- Settles O39: the moves out of each state. -/
theorem stateGraph : Obligations.StateGraph := by
  intro s t _ h hr
  obtain ⟨-, u, hm, ht⟩ := botMove_of_step h
  rw [ht.st]
  refine ⟨fun hs => hm.st_of_recvCbw hr hs, fun hs => ?process, fun hs => ?capacity, fun hs => ?data,
    fun hs => ?csw⟩
  case process =>
    have hcommand := hm.command_of_processCbw hr hs
    exact ⟨hcommand.discards_iff, hcommand.leaves_processCbw.1⟩
  case capacity =>
    have hst := hm.st_of_dataPhase hr (.inl hs)
    rwa [State.recLen_capacity hs, hs] at hst
  case data =>
    have hst := hm.st_of_dataPhase hr (.inr hs)
    rwa [State.recLen_data hs, hs] at hst
  case csw =>
    have hst := hm.st_of_csw hr hs
    rwa [State.recLen_csw hs] at hst

/-- Settles O24: the arm's `goto` is that write of `st`. -/
theorem badSignatureIsDiscarded : Obligations.BadSignatureIsDiscarded := fun _ _ _ _ => rfl

end Sys2Proof.Proofs
end

section
/-!
PROOFS. The statements of spec/42_scsi_commands.md: each command's next state (R201, R205, R215, R220), the
commands answered FAILED (R224), and a session of TEST_UNIT_READYs (R203).
-/

namespace Sys2Proof.Machine

open Sys2Proof.Claims

/-! ### The data-phase test after the opcode's event (R166, R205, R215) -/

theorem State.ifReady_emit (s : State) (e : TraceEvent) (x : BotState) :
    (s.emit e).ifReady x =
      if s.ready = false then { s with fail := true, st := .sendCsw, trace := e :: s.trace }
      else { s with st := x, trace := e :: s.trace } := by
  by_cases hr : s.ready = false
  · rw [State.ifReady_notReady (s.emit e) x hr, if_pos hr]
    rfl
  · rw [State.ifReady_ready (s.emit e) x (by simpa using hr), if_neg hr]
    rfl

/-! ### The commands answered FAILED (R200, R224) -/

/-- R224: the command in the buffer, its signature being valid, is a scripted or a not-ready failure. -/
def State.CommandFails (s : State) : Prop :=
  byteAt s.cbw 15 = 0x00 ∧ s.polls < 2 ∨ (byteAt s.cbw 15 = 0x25 ∨ byteAt s.cbw 15 = 0x28) ∧ s.ready = false

/-- Where `fail` is clear at dispatch, exactly those commands set it. -/
theorem CommandMove.fail_iff {s u : State} (h : CommandMove s u) (hsig : signed s.cbw = true)
    (hf : s.fail = false) : u.fail = true ↔ s.CommandFails := by
  have keeps (hu : u.fail = s.fail) (hpasses : ¬ s.CommandFails) : u.fail = true ↔ s.CommandFails := by
    simp [hu, hf, hpasses]
  cases h with
  | discard hg => exact absurd ((signed_iff _).1 hsig) hg
  | pollFails _ ho hp => exact iff_of_true rfl (.inl ⟨ho, hp⟩)
  | notReady _ op ho hop hr =>
    subst ho
    exact iff_of_true rfl (.inr ⟨hop, hr⟩)
  | pollPasses _ ho hp =>
    have hop : byteAt s.cbw 15 = 0x00 := ho
    have hpolls : ¬ s.polls < 2 := hp
    exact keeps rfl (by simp [State.CommandFails, hop, hpolls])
  | capacity _ ho hr | data _ ho hr =>
    have hop : byteAt s.cbw 15 = _ := ho
    exact keeps rfl (by simp [State.CommandFails, hop, hr, opReadCapacity10, opRead10])
  | acknowledge _ op ho hop =>
    subst ho
    obtain ⟨h0, h1, h2⟩ := hop
    have hpasses : ¬ s.CommandFails := by
      rintro (⟨hc, -⟩ | ⟨hc | hc, -⟩)
      exacts [h0 hc, h1 hc, h2 hc]
    exact keeps rfl hpasses

/-! ### The trace outside PROCESS_CBW (R29, R171, R252) -/

/-- The trace as it stands once the answer being sent is complete: its CSW's status is then traced (R171). -/
def State.answeredTrace (s : State) : List TraceEvent :=
  if s.st.sends then .cswStatus s.status :: s.trace else s.trace

theorem State.answeredTrace_of_sends {s : State} (hs : s.st.sends = true) :
    s.answeredTrace = .cswStatus s.status :: s.trace := if_pos hs

theorem State.answeredTrace_of_silent {s : State} (hs : s.st.sends = false) : s.answeredTrace = s.trace :=
  if_neg (by simp [hs])

/-- Only a command adds to it: the end of a data phase keeps the status, and the end of a CSW traces it. -/
theorem BotMove.answeredTrace_eq {b : BotIn} {s u : State} (h : BotMove b s u) (hr : b.rst = false)
    (hs : s.st ≠ .processCbw) : u.answeredTrace = s.answeredTrace := by
  cases h with
  | reset hr' => simp [hr] at hr'
  | command _ hs' => exact absurd hs' hs
  | wait | store | stall | advance => rfl
  | storeLast _ hs' | finishCsw _ hs' => simp [State.answeredTrace, hs', BotState.sends]
  | finishData _ hs' =>
    have hsends : s.st.sends = true := (BotState.sends_iff _).2 (by tauto)
    rw [State.answeredTrace_of_sends hsends]
    rfl

theorem BotAfter.answeredTrace_eq {s u t : State} (h : BotAfter s u t) : t.answeredTrace = u.answeredTrace := by
  simp [State.answeredTrace, State.status, h.st, h.fail, h.trace]

/-- Within a calm cycle of the blocks alone BOT is not reset. -/
theorem State.botIn_rst_of_calm {s : State} {p : Pins} {ps : List Pins} (halone : BotAlone s.cfg) (hp : Calm p)
    (hscript : s.script = p :: ps) : (s.botIn s.pins).rst = false := by
  obtain ⟨-, hw, ht⟩ := halone
  rw [State.pins_of_script hscript, State.botIn_alone hw ht]
  exact hp.1

/-- Such a cycle outside PROCESS_CBW adds nothing to it. -/
theorem step_answeredTrace {s t : State} {p : Pins} {ps : List Pins} (halone : BotAlone s.cfg) (hp : Calm p)
    (hscript : s.script = p :: ps) (hs : s.st ≠ .processCbw) (h : step s = .next t) :
    t.answeredTrace = s.answeredTrace := by
  obtain ⟨-, u, hm, ht⟩ := botMove_of_step h
  exact ht.answeredTrace_eq.trans (hm.answeredTrace_eq (State.botIn_rst_of_calm halone hp hscript) hs)

theorem runCycles_one {s t : State} : runCycles 1 s = .next t ↔ step s = .next t := by
  rcases hs : step s with u | r | r <;> simp [runCycles, hs]

/-! ### The trace of a TEST_UNIT_READY (R166, R171, R201) -/

/-- Nothing is traced while a CBW is received. -/
theorem Receiving.answeredTrace_of_step {s u : State} {b : Byte} {bytes : List Byte} {ps rest : List Pins}
    (h : Receiving s (b :: bytes) ps rest) (hu : step s = .next u) : u.answeredTrace = s.answeredTrace := by
  obtain ⟨p, ps, rfl, -⟩ := feeds_cons h.feeds
  exact step_answeredTrace h.alone (h.calm p (by simp)) h.script (by simp [h.state]) hu

theorem Receiving.answeredTrace_of_run {s t : State} {bytes : List Byte} {ps rest : List Pins}
    (h : Receiving s bytes ps rest) (hrun : runCycles bytes.length s = .next t) :
    t.answeredTrace = s.answeredTrace := by
  induction bytes generalizing s ps with
  | nil =>
    cases hrun
    rfl
  | cons b bytes ih =>
    cases bytes with
    | nil => exact h.answeredTrace_of_step (runCycles_one.1 hrun)
    | cons b' bytes =>
      obtain ⟨u, ps', hu, hrest, -⟩ := h.step_store
      rw [List.length_cons, runCycles_succ _ hu] at hrun
      exact (ih hrest hrun).trans (h.answeredTrace_of_step hu)

theorem trace_of_receipt {s t : State} {bytes : List Byte} {ps rest : List Pins} (halone : BotAlone s.cfg)
    (hawaits : AwaitsCbw s) (hbuffer : s.cbw.length = s.cfg.cbwLen) (hlen : bytes.length = s.cfg.cbwLen)
    (hfeeds : Feeds bytes ps) (hcalm : ∀ p ∈ ps, Calm p) (hscript : s.script = ps ++ rest)
    (hrun : runCycles s.cfg.cbwLen s = .next t) (ht : t.st = .processCbw) : t.trace = s.trace := by
  obtain ⟨hs, hoff, -, -⟩ := hawaits
  have hreceiving : Receiving s bytes ps rest :=
    ⟨halone, hs, by rw [hoff, hlen, Nat.zero_add], hbuffer, hfeeds, hcalm, hscript⟩
  have htrace := hreceiving.answeredTrace_of_run (hlen ▸ hrun)
  rwa [State.answeredTrace_of_silent (by rw [ht]; rfl), State.answeredTrace_of_silent (by rw [hs]; rfl)] at htrace

/-- While a record is emitted, nothing is traced but the status at the end of a CSW. -/
theorem Emitting.answeredTrace_of_step {s u : State} {p : Pins} {ps rest : List Pins}
    (h : Emitting s (p :: ps) rest) (hu : step s = .next u) : u.answeredTrace = s.answeredTrace :=
  step_answeredTrace h.alone (h.calm p (by simp)) h.script
    (fun hs => by simpa [hs, BotState.sends] using h.sends) hu

theorem Emitting.answeredTrace_of_run {s t : State} {ps rest : List Pins} (h : Emitting s ps rest)
    (hrun : runCycles ps.length s = .next t) : t.answeredTrace = s.answeredTrace := by
  induction ps generalizing s with
  | nil =>
    cases hrun
    rfl
  | cons p ps ih =>
    cases ps with
    | nil => exact h.answeredTrace_of_step (runCycles_one.1 hrun)
    | cons p' ps =>
      obtain ⟨u, hfirst, -, hrest⟩ := h.advance
      have hu : step s = .next u := runCycles_one.1 hfirst.run
      rw [List.length_cons, runCycles_succ _ hu] at hrun
      exact (ih hrest hrun).trans (h.answeredTrace_of_step hu)

/-- R171: an answer that is a CSW alone ends with the trace its start foretold. -/
theorem Answering.trace_of_csw {s t : State} {ps rest : List Pins} (h : Answering s ps rest)
    (hs : s.st = .sendCsw) (hrun : runCycles ps.length s = .next t) (ht : t.st = .recvCbw) :
    t.trace = s.answeredTrace := by
  have hemit : Emitting s ps rest :=
    { h with
      sends := by rw [hs]; rfl
      toCome := by simp [h.cursor, h.toCome, State.answer, State.recLen, hs] }
  rw [← hemit.answeredTrace_of_run hrun, State.answeredTrace_of_silent (by rw [ht]; rfl)]

/-- R201: a poll is answered FAILED below the limit, and PASSED at it. -/
theorem CommandMove.answeredTrace_testUnitReady {s u : State} (h : CommandMove s u)
    (hsig : signed s.cbw = true) (hop : byteAt s.cbw 15 = 0x00) (hf : s.fail = false) :
    u.st = .sendCsw ∧
      u.answeredTrace = .cswStatus (if s.polls < 2 then .failed else .passed) :: .opcode 0x00 :: s.trace := by
  have hg : recordSignature s.cbw = cbwMagic := (signed_iff _).1 hsig
  by_cases hp : s.polls < 2
  · obtain rfl := h.unique (.pollFails hg hop hp)
    rw [if_pos hp]
    exact ⟨rfl, rfl⟩
  · obtain rfl := h.unique (.pollPasses hg hop hp)
    rw [if_neg hp, State.answeredTrace_of_sends rfl]
    simp [State.status, hf, opTestUnitReady]

/-- The PROCESS_CBW cycle of a poll. -/
theorem step_testUnitReady {s u : State} {p : Pins} {ps : List Pins} (halone : BotAlone s.cfg) (hi : s.Inv)
    (hs : s.st = .processCbw) (hsig : signed s.cbw = true) (hop : byteAt s.cbw 15 = 0x00) (hp : Calm p)
    (hscript : s.script = p :: ps) (h : step s = .next u) :
    u.st = .sendCsw ∧
      u.answeredTrace = .cswStatus (if s.polls < 2 then .failed else .passed) :: .opcode 0x00 :: s.trace := by
  obtain ⟨-, v, hm, hv⟩ := botMove_of_step h
  have hcommand : CommandMove s v := hm.command_of_processCbw (State.botIn_rst_of_calm halone hp hscript) hs
  rw [hv.st, hv.answeredTrace_eq]
  exact hcommand.answeredTrace_testUnitReady hsig hop (hi.failOnlyInCsw (by simp [hs]))

/-- A whole transaction traces the poll's opcode and its status, whatever else the CBW holds. -/
theorem trace_of_testUnitReady {s t : State} {cbw : List Byte} {ps rest : List Pins} (halone : BotAlone s.cfg)
    (hi : s.Inv) (hawaits : AwaitsCbw s) (hsig : signed cbw = true) (hop : byteAt cbw 15 = 0x00)
    (htrans : IsTransaction s.cfg cbw 13 ps) (hscript : s.script = ps ++ rest)
    (hrun : runCycles ps.length s = .next t) (ht : AwaitsCbw t) :
    t.trace = .cswStatus (if s.polls < 2 then .failed else .passed) :: .opcode 0x00 :: s.trace := by
  obtain ⟨receive, process, answer, rfl, hcalm, hlen, hfeeds, haccepts, hanswer⟩ := htrans
  have hscript : s.script = receive ++ process :: (answer ++ rest) := hscript.trans (List.append_assoc ..)
  have hcalmReceive : ∀ p ∈ receive, Calm p := fun p hp => hcalm p (by simp [hp])
  have hprocess : Calm process := hcalm process (by simp)
  obtain ⟨a, hreceived, rfl, hst, -, hpolls, hrest⟩ :=
    run_receive halone hawaits hi.bufferLength hlen hfeeds hcalmReceive hscript
  have hreceipt : a.trace = s.trace :=
    trace_of_receipt halone hawaits hi.bufferLength hlen hfeeds hcalmReceive hscript hreceived.run hst
  have halone' : BotAlone a.cfg := runCycles_cfg hreceived.run ▸ halone
  have hi' : a.Inv := runCycles_inv hreceived.run hi
  obtain ⟨u, hprocessed, hu, -, -⟩ := run_dispatch halone' hi' hst hrest hprocess
    (fun p hp => hcalm p (by simp [hp])) haccepts (by rw [response_testUnitReady hsig hop, hanswer]; rfl)
  have hdispatch : step a = .next u := runCycles_one.1 hprocessed.run
  obtain ⟨hcsw, htrace⟩ := step_testUnitReady halone' hi' hst hsig hop hprocess hrest hdispatch
  have hlength : receive.length = s.cfg.cbwLen := by simpa [hlen] using congrArg List.length hfeeds
  rw [List.length_append, hlength, runCycles_add _ _ hreceived.run, List.length_cons,
    runCycles_succ _ hdispatch] at hrun
  rw [hu.trace_of_csw hcsw hrun ht.1, htrace, hpolls, hreceipt]

/-! ### A session of TEST_UNIT_READYs (R203) -/

/-- BOT awaits a CBW, having answered `n` TEST_UNIT_READYs of a fresh session. -/
structure Polled (n : Nat) (s : State) : Prop where
  alone : BotAlone s.cfg
  inv : s.Inv
  awaits : AwaitsCbw s
  polls : s.polls = min n 2
  ready : s.ready = decide (3 ≤ n)
  trace : s.trace = turTrace n

/-- R201, R203: the next poll of the session. -/
theorem Polled.poll {n : Nat} {s : State} {cbw : List Byte} {ps rest : List Pins} (h : Polled n s)
    (hsig : signed cbw = true) (hop : byteAt cbw 15 = 0x00) (htrans : IsTransaction s.cfg cbw 13 ps)
    (hscript : s.script = ps ++ rest) :
    ∃ t, runCycles ps.length s = .next t ∧ Polled (n + 1) t ∧ t.script = rest := by
  have hresponse : (response s.cfg s.ready s.polls cbw).length = 13 := by
    rw [response_testUnitReady hsig hop]
    rfl
  obtain ⟨t, hrun, -, -, hawaits, -, hrest, hpolls, hready⟩ :=
    Proofs.everyCommandIsAnsweredInFull s cbw ps rest h.alone h.inv h.awaits (hresponse ▸ htrans) hscript
  have htrace := trace_of_testUnitReady h.alone h.inv h.awaits hsig hop htrans hscript hrun hawaits
  have hlimit : s.polls < 2 ↔ n < 2 := by
    rw [h.polls]
    omega
  simp only [hsig, hop, true_and, hlimit] at hpolls hready htrace
  refine ⟨t, hrun, ?_, hrest⟩
  exact
    { alone := runCycles_cfg hrun ▸ h.alone
      inv := runCycles_inv hrun h.inv
      awaits := hawaits
      polls := by
        rw [hpolls, h.polls]
        split <;> omega
      ready := by
        rw [hready, h.ready]
        split <;> simp <;> omega
      trace := by rw [htrace, h.trace]; rfl }

/-- The rest of a session, by induction on the polls to come. -/
theorem Polled.session {n : Nat} {s : State} {cmds : List (List Byte × List Pins)} {rest : List Pins}
    (h : Polled n s)
    (hcmds : ∀ c ∈ cmds, signed c.1 = true ∧ byteAt c.1 15 = 0x00 ∧ IsTransaction s.cfg c.1 13 c.2)
    (hscript : s.script = cmds.flatMap Prod.snd ++ rest) :
    ∃ t, runCycles (cmds.flatMap Prod.snd).length s = .next t ∧ Polled (n + cmds.length) t := by
  induction cmds generalizing n s with
  | nil => exact ⟨s, rfl, h⟩
  | cons c cmds ih =>
    rw [List.flatMap_cons, List.append_assoc] at hscript
    obtain ⟨hsig, hop, htrans⟩ := hcmds c (by simp)
    obtain ⟨u, hpoll, hu, hrest⟩ := h.poll hsig hop htrans hscript
    obtain ⟨t, hrun, ht⟩ := ih hu (fun d hd => runCycles_cfg hpoll ▸ hcmds d (by simp [hd])) hrest
    refine ⟨t, ?_, ?_⟩
    · rw [List.flatMap_cons, List.length_append, runCycles_add _ _ hpoll, hrun]
    · rwa [List.length_cons, Nat.add_comm cmds.length, ← Nat.add_assoc]

end Sys2Proof.Machine

namespace Sys2Proof.Proofs

open Sys2Proof.Machine Sys2Proof.Claims

/-- Settles O33: the command that the cycle runs finds `fail` clear (I-c). -/
theorem failedStatusLaw : Obligations.FailedStatusLaw := by
  intro s hc hi hs hr hsig
  obtain ⟨u, t, hm, hstep, ht⟩ := step_processCbw hc hi.bufferLength hs hr
  refine ⟨t, hstep, ?_⟩
  rw [ht.fail]
  exact hm.fail_iff hsig (hi.failOnlyInCsw (by simp [hs]))

/-- Settles O58: a fresh session has answered no poll, and each transaction answers one more. -/
theorem testUnitReadySequence : Obligations.TestUnitReadySequence := by
  intro s cmds rest halone hi hawaits hpolls hready htrace hcmds hscript
  have hfresh : Polled 0 s := ⟨halone, hi, hawaits, hpolls, hready, htrace⟩
  obtain ⟨t, hrun, ht⟩ := hfresh.session hcmds hscript
  rw [Nat.zero_add] at ht
  exact ⟨t, hrun, ht.trace, ht.polls, ht.ready, ht.awaits⟩

/-- Settles O25: the two branches of the polling. -/
theorem testUnitReadyResult : Obligations.TestUnitReadyResult := by
  intro s c
  rw [exec, execTestUnitReady]
  by_cases hp : s.polls < 2
  · rw [if_pos hp, State.pollReadiness_below (s.emit _) hp]
    rfl
  · rw [if_neg hp, State.pollReadiness_atLimit (s.emit _) hp]
    rfl

/-- Settles O26: the data-phase test, with SEND_CAPACITY as the data phase. -/
theorem readCapacityResult : Obligations.ReadCapacityResult :=
  fun s _ => congrArg Host.Outcome.next (s.ifReady_emit (.opcode opReadCapacity10) .sendCapacity)

/-- Settles O27: likewise with SEND_DATA. -/
theorem readTenResult : Obligations.ReadTenResult :=
  fun s _ => congrArg Host.Outcome.next (s.ifReady_emit (.opcode opRead10) .sendData)

/-- Settles O28: the arm's `emit` and `toCsw` are those writes of the trace and of `st`. -/
theorem otherOpcodeIsAcknowledged : Obligations.OtherOpcodeIsAcknowledged := fun _ _ _ => rfl

end Sys2Proof.Proofs
end

section
/-!
PROOFS. The statements of spec/60_exceptions.md: a step from a state with the invariants completes within the
interface contract (R240) and is refused outside it, for the configuration or the op mode (R249).
-/

namespace Sys2Proof.Machine

/-- What a step answers from a state with the invariants, and when. -/
inductive StepAnswer (s : State) : Prop
  /-- R240. -/
  | completes (hc : s.InContract) (t : State) (h : step s = .next t)
  /-- R249, R_CONFIG. -/
  | badConfig (hv : ¬ configValid s.cfg = true) (h : step s = .refused .badConfig)
  /-- R249, R_OPMODE. -/
  | reservedOpMode (hm : s.pins.h.opMode = .reserved ∨ (s.deviceIn s.pins).opMode = .reserved)
      (h : step s = .refused .reservedOpMode)

/-- R36 makes the buffer a record of a length in R8's range, so BOT's edge can decode it: the contract alone
decides between completion and refusal. -/
theorem State.Inv.stepAnswer {s : State} (hi : s.Inv) : StepAnswer s := by
  by_cases hv : configValid s.cfg = true
  · by_cases hm : s.pins.h.opMode = .reserved ∨ (s.deviceIn s.pins).opMode = .reserved
    · exact .reservedOpMode hm (step_of_reserved hv ((reserved_iff _ _).1 hm))
    · have hc : s.InContract := ⟨hv, not_not.1 (mt (reserved_iff _ _).2 hm)⟩
      obtain ⟨t, ht⟩ := step_completes hc (hi.bufferLength ▸ configValid_cbwLen hv)
      exact .completes hc t ht
  · exact .badConfig hv (step_of_not_configValid hv)

end Sys2Proof.Machine

namespace Sys2Proof.Proofs

open Sys2Proof.Machine

/-- Settles O45: within the contract a step completes, and each refusal names a clause of the contract that
fails. -/
theorem everyContractCycleCompletes : Obligations.EveryContractCycleCompletes := by
  intro s hi
  cases hi.stepAnswer with
  | completes hc t h => simp [h]
  | badConfig hv h =>
    have hc : ¬ s.InContract := fun hc => hv hc.1
    simp [h, hc]
  | reservedOpMode hm h =>
    have hc : ¬ s.InContract := fun hc => (reserved_iff _ _).1 hm hc.2
    simp [h, hc]

/-- Settles O46: a refused step is one of the two refusing answers, and the refusal is that answer's. -/
theorem refusalsAreConfigurationAndOpMode : Obligations.RefusalsAreConfigurationAndOpMode := by
  intro s r hi hr
  cases hi.stepAnswer with
  | completes hc t h => simp [h] at hr
  | badConfig hv h =>
    obtain rfl : Refusal.badConfig = r := by simpa [h] using hr
    exact .inl ⟨rfl, Bool.eq_false_of_not_eq_true hv⟩
  | reservedOpMode hm h =>
    obtain rfl : Refusal.reservedOpMode = r := by simpa [h] using hr
    exact .inr ⟨rfl, hm⟩

end Sys2Proof.Proofs
end

section
/-!
PROOFS. The statements of spec/70_reset_and_hazards.md: the reset edge (R270 to R272), and the direct
composition's wiring (R285) with what becomes of a host byte in it (R286).
-/

namespace Sys2Proof.Machine

/-! ### The reset edge (R270 to R272, R274) -/

/-- In both wirings BOT's reset is its own pin or the tied bus reset (R274). -/
theorem State.botIn_rst (s : State) (p : Pins) : (s.botIn p).rst = s.botRst p := by
  unfold State.botIn
  split <;> rfl

/-- R270: the pin alone resets BOT, whatever the bus reset does. -/
theorem State.botRst_of_pin (s : State) {p : Pins} (hr : p.botRst = true) : s.botRst p = true := by
  simp [State.botRst, hr]

/-- R272: of BOT's moves, a reset edge makes the reset. -/
theorem step_reset {s t : State} (h : step s = .next t) (hr : (s.botIn s.pins).rst = true) :
    BotAfter s s.resetBot t := by
  obtain ⟨-, u, hm, ht⟩ := botMove_of_step h
  exact hm.unique (.reset hr) ▸ ht

/-- R36, R240: with a buffer of CBW_LEN bytes a cycle within the contract completes. -/
theorem State.Inv.step_completes {s : State} (hi : s.Inv) (hc : s.InContract) : ∃ t, step s = .next t :=
  Machine.step_completes hc (hi.bufferLength ▸ configValid_cbwLen hc.1)

/-! ### The direct composition (R285, R286) -/

section Direct
variable {s : State} (hw : s.cfg.wiring = .direct) (p : Pins)
include hw

theorem State.deviceIn_direct : s.deviceIn p = ⟨.normal, s.botOut.txValid, s.botOut.txData⟩ := by
  simp [State.deviceIn, hw]

theorem State.botIn_direct :
    s.botIn p =
      ⟨s.botRst p, relayAccept s.cfg.pPreamble s.cntHd p.h, p.h.txData,
        relayAccept s.cfg.pPreamble s.cntDh (s.deviceIn p)⟩ := by
  simp [State.botIn, hw]

end Direct

/-- R162, R163: in RECV_CBW an offered byte is stored at the offset, the last one of a CBW included. -/
theorem BotMove.stores_offered {b : BotIn} {s u : State} (h : BotMove b s u) (hr : b.rst = false)
    (hs : s.st = .recvCbw) (hv : b.rxValid = true) : u.cbw = (s.storeCbw s.rxOff b.rxData).cbw := by
  by_cases ho : s.rxOff = s.cfg.cbwLen - 1
  · obtain rfl := h.unique (.storeLast hr hs hv ho)
    rfl
  · obtain rfl := h.unique (.store hr hs hv ho)
    rfl

/-- R162, R163: after the step that byte is read at the offset, which lies inside the buffer (R31, R36). -/
theorem step_stores_offered {s t : State} (h : step s = .next t) (hi : s.Inv)
    (hr : (s.botIn s.pins).rst = false) (hs : s.st = .recvCbw) (hv : (s.botIn s.pins).rxValid = true) :
    t.cbwByte s.rxOff = (s.botIn s.pins).rxData := by
  obtain ⟨-, u, hm, ht⟩ := botMove_of_step h
  have hoff : s.rxOff < s.cbw.length := hi.bufferLength ▸ hi.offsetRange
  calc t.cbwByte s.rxOff
      = (s.storeCbw s.rxOff (s.botIn s.pins).rxData).cbwByte s.rxOff :=
        congrArg (byteAt · s.rxOff) (ht.cbw.trans (hm.stores_offered hr hs hv))
    _ = (s.botIn s.pins).rxData := by rw [State.cbwByte_storeCbw _ _ _ _ hoff, if_pos rfl]

end Sys2Proof.Machine

namespace Sys2Proof.Proofs

open Sys2Proof.Machine

/-- Settles O48: ARB's cycle clears the counters under its reset, and BOT's move under its own is the
reset. -/
theorem resetEdgeSetsTheRegisters : Obligations.ResetEdgeSetsTheRegisters := by
  intro s hc hi
  obtain ⟨t, hstep⟩ := hi.step_completes hc
  refine ⟨t, hstep, (leadTimeCountersInEveryCycle s t hstep).1, fun hr => ?_⟩
  have ht : BotAfter s s.resetBot t := step_reset hstep ((s.botIn_rst _).trans (s.botRst_of_pin hr))
  have hlength : t.cbw.length = s.cfg.cbwLen := by rw [ht.cbw, State.resetBot_cbw, length_freeBuffer]
  exact ⟨ht.st, ht.rxOff, ht.txCur, ht.ready, ht.polls, ht.fail, hlength, ht.trace⟩

/-- Settles O59: the records a step logs hold ARB's and BOT's inputs, which the wiring makes each other's
outputs. -/
theorem directCompositionWiring : Obligations.DirectCompositionWiring := by
  intro s t hw h
  obtain ⟨-, u, -, ht⟩ := botMove_of_step h
  have hbot := State.botIn_direct hw s.pins
  exact ⟨_, _, step_arbLog h, ht.botLog, congrArg BotIn.rxValid hbot, congrArg BotIn.rxData hbot,
    congrArg BotIn.txReady hbot, State.deviceIn_direct hw s.pins⟩

/-- Settles O60: past the lead time ARB accepts the byte, which BOT's edge is then offered, and stores in
RECV_CBW alone. -/
theorem earlyBytesAreLostInTheComposition : Obligations.EarlyBytesAreLostInTheComposition := by
  intro s hc hi hw hr hv hcnt
  obtain ⟨t, hstep⟩ := hi.step_completes hc
  have haccept : relayAccept s.cfg.pPreamble s.cntHd s.pins.h = true := relayAccept_iff.2 ⟨hv, hcnt⟩
  refine ⟨t, _, hstep, step_arbLog hstep, haccept, haccept,
    fun hs => commandIsHeldUntilAnswered s t hstep hs hr, fun hs => ?stored⟩
  case stored =>
    have hoffered : (s.botIn s.pins).rxValid = true := by rw [State.botIn_direct hw, haccept]
    rw [step_stores_offered hstep hi hr hs hoffered, State.botIn_direct hw]

end Sys2Proof.Proofs
end

section
/-!
PROOFS. The bus reset tied to BOT (spec/70_reset_and_hazards.md section 1, R274; assumption 10).
-/

namespace Sys2Proof.Machine

/-- R274: with the parameter true, a cycle whose arbitration decodes to HOST_RESET resets BOT, whatever its own
reset pin says. -/
theorem State.botRst_of_hostReset {s : State} {p : Pins} {h d : SideIn} (htied : s.cfg.busResetResetsBot = true)
    (hdecode : s.arbInstr p = .hostReset h d) : s.botRst p = true := by
  simp [State.botRst, htied, hdecode, isHostReset]

end Sys2Proof.Machine

namespace Sys2Proof.Proofs

open Sys2Proof.Machine

/-- Settles O51: the tied reset makes BOT's move the reset, which applies whatever the buffer holds, so the cycle
completes. -/
theorem tiedBusResetResetsBot : Obligations.TiedBusResetResetsBot := by
  intro s hc htied hdecode
  have hrst : (s.botIn s.pins).rst = true :=
    (s.botIn_rst _).trans (State.botRst_of_hostReset htied hdecode)
  obtain ⟨t, hstep, ht⟩ := step_of_botMove hc (.reset hrst)
  exact ⟨t, hstep, ht.st, ht.rxOff, ht.txCur, ht.ready, ht.polls, ht.fail⟩

end Sys2Proof.Proofs
end
